-- ==== Sys2Proof/Word.lean ====
section
/-! DEFINITION. The machine words of the OHR20-VCB: the widths that rule R8 and rule R11 fix. -/

namespace Sys2Proof

/-- An unsigned 8-bit value (rule R11). -/
abbrev U8 := BitVec 8
/-- An unsigned 16-bit value (rule R11). -/
abbrev U16 := BitVec 16
/-- An unsigned 32-bit value (rule R11). -/
abbrev U32 := BitVec 32
/-- A signed 8-bit value, read by `BitVec.toInt` (rule R11). -/
abbrev I8 := BitVec 8
/-- A signed 16-bit value, read by `BitVec.toInt` (rule R11). -/
abbrev I16 := BitVec 16
/-- A signed 32-bit value, read by `BitVec.toInt` (rule R11). -/
abbrev I32 := BitVec 32
/-- One CMD24 operation word (rule R131). -/
abbrev Cmd24 := BitVec 24

end Sys2Proof
end

