-- ==== Sys2Proof/Config.lean ====
section
/-! DEFINITION. The configuration record `cfg` (rules R7, R60, R406, R409, decision D60; its legality check and its
load-time replacement are in Machine/Legal.lean), its values at reset, and the free values the spec leaves open. -/

namespace Sys2Proof

/-- Which window detector is built in (rules R4, R250). -/
inductive WindowStrategy where
  | hw
  | thermal
deriving DecidableEq, Repr

/-- Setpoint parameters (rules R7, R60). -/
structure SetpointCfg where
  /-- `TEMP_MIN` -/
  tempMin : U8
  /-- `TEMP_MAX` -/
  tempMax : U8
  /-- `T_FROST` -/
  tFrost : U8
  /-- `T_PRESET[0]`, frost -/
  tPreset0 : U8
  /-- `T_PRESET[1]`, eco -/
  tPreset1 : U8
  /-- `T_PRESET[2]`, comfort -/
  tPreset2 : U8
  /-- `T_PRESET[3]`, supercomfort -/
  tPreset3 : U8
  /-- `WANTED_INIT` -/
  wantedInit : U8
  /-- `AUTO_INIT` -/
  autoInit : Bool
deriving DecidableEq, Repr

/-- Control-law parameters (rule R7). -/
structure PidCfg where
  /-- `P_Factor` -/
  pFactor : U8
  /-- `I_Factor` -/
  iFactor : U8
  /-- `P3_Factor` -/
  p3Factor : U8
  /-- `valve_center` -/
  valveCenter : U8
  /-- `valve_min` -/
  valveMin : U8
  /-- `valve_max` -/
  valveMax : U8
  /-- `valve_hysteresis` -/
  valveHysteresis : U8
  /-- `PID_interval` -/
  pidInterval : U8
  /-- `I_max_credit` -/
  iMaxCredit : U8
  /-- `I_credit_expiration` -/
  iCreditExpiration : U8
  /-- `DEFINE_INTEGRATOR_BLOCK` -/
  defineIntegratorBlock : U8
  /-- `CREDIT_SHIFT` -/
  creditShift : U8
  /-- `ROLLBACK_TOL` -/
  rollbackTol : U16
  /-- `ENABLE_D` -/
  enableD : Bool
  /-- `VALVE_HISTORY_LEN` -/
  valveHistoryLen : U8
deriving DecidableEq, Repr

/-- Boost-mode parameters (rules R7, R229). -/
structure BoostCfg where
  /-- `BOOST_ENABLE` -/
  boostEnable : Bool
  /-- `BOOST_SP_DIFF` -/
  boostSpDiff : U8
  /-- `BOOST_ERR_THLD` -/
  boostErrThld : U16
  /-- `BOOST_HYST` -/
  boostHyst : U16
  /-- `BOOST_FACTOR` -/
  boostFactor : U8
deriving DecidableEq, Repr

/-- Window-detection parameters (rule R7). -/
structure WindowCfg where
  /-- `WINDOW_STRATEGY` -/
  windowStrategy : WindowStrategy
  /-- `window_open_detection_time` -/
  openDetectionTime : U8
  /-- `window_close_detection_time` -/
  closeDetectionTime : U8
  /-- `window_open_detection_diff` -/
  openDetectionDiff : U16
  /-- `window_close_detection_diff` -/
  closeDetectionDiff : U16
  /-- `window_open_timeout` -/
  openTimeout : U8
  /-- `WINDOW_RB_LEN` -/
  rbLen : U8
  /-- `WINDOW_HW_DEBOUNCE` -/
  hwDebounce : U8
deriving DecidableEq, Repr

/-- Battery parameters (rule R7). -/
structure BatteryCfg where
  /-- `bat_low_thld` -/
  batLowThld : U16
  /-- `bat_warning_thld` -/
  batWarningThld : U16
  /-- `BATT_ERR_REVERSIBLE` -/
  battErrReversible : Bool
deriving DecidableEq, Repr

/-- Motor parameters (rule R7) and the first power-up hint (rule R52). -/
structure MotorCfg where
  /-- `MOTOR_IGNORE_IMPULSES` -/
  ignoreImpulses : U8
  /-- `MOTOR_MIN_IMPULSES` -/
  minImpulses : U16
  /-- `MOTOR_TOL` -/
  tol : U8
  /-- `MOTOR_SETTLE_TICKS` -/
  settleTicks : U8
  /-- `MOTOR_CAL_LARGE`, signed -/
  calLarge : I16
  /-- `motor_eye_low` -/
  eyeLow : U8
  /-- `motor_eye_high` -/
  eyeHigh : U8
  /-- `MOTOR_TARGET_PERIOD` -/
  targetPeriod : U16
  /-- `PWM_DIV` -/
  pwmDiv : U8
  /-- `PWM_MAX_STEP` -/
  pwmMaxStep : U8
  /-- `PWM_MIN` -/
  pwmMin : U8
  /-- `PWM_MAX` -/
  pwmMax : U8
  /-- `PWM_START` -/
  pwmStart : U8
  /-- `MOTOR_WDT_RUN` -/
  wdtRun : U16
  /-- `MOTOR_WDT_CAL` -/
  wdtCal : U16
  /-- `NV_MAXPULSES_INIT` -/
  nvMaxPulsesInit : U16
deriving DecidableEq, Repr

/-- Radio link and frame-machine parameters (rules R7, R406). -/
structure RadioCfg where
  /-- `RFM_ADDR`; 0 disables the radio -/
  rfmAddr : U8
  /-- `RFM_BAUD` -/
  rfmBaud : U32
  /-- `BUF_CAP` -/
  bufCap : U8
  /-- `RFM_PM_RX` -/
  pmRx : U16
  /-- `RFM_PM_TX` -/
  pmTx : U16
  /-- `RFM_PM_IDLE` -/
  pmIdle : U16
  /-- `RFM_FIFO_CLEAR` -/
  fifoClear : U16
  /-- `RFM_FIFO_ARM` -/
  fifoArm : U16
  /-- `RFM_QUIET`, used by no rule (rule R612) -/
  rfmQuiet : Nat
deriving DecidableEq, Repr

/-- RFM12 initialisation fields (rule R409), each held in 16 bits so that a value too wide for its field can be refused. -/
structure InitCfg where
  /-- `RFM_CFG_BITS`, 8 bits -/
  cfgBits : U16
  /-- `RFM_FREQ`, 12 bits -/
  freq : U16
  /-- `RFM_DRATE`, 8 bits -/
  drate : U16
  /-- `RFM_P16`, 1 bit -/
  p16 : U16
  /-- `RFM_VDI`, 2 bits -/
  vdi : U16
  /-- `BW_TIER[0]`, 3 bits -/
  bwTier0 : U16
  /-- `BW_TIER[1]`, 3 bits -/
  bwTier1 : U16
  /-- `BW_TIER[2]`, 3 bits -/
  bwTier2 : U16
  /-- `RFM_LNA`, 2 bits -/
  lna : U16
  /-- `RFM_RSSI`, 3 bits -/
  rssi : U16
  /-- `RFM_DFILT`, 8 bits -/
  dfilt : U16
  /-- `RFM_FIFO_BITS`, 8 bits -/
  fifoBits : U16
  /-- `RFM_AFC_BITS`, 8 bits -/
  afcBits : U16
  /-- `RFM_MP`, 1 bit -/
  mp : U16
  /-- `MOD_TIER[0]`, 4 bits -/
  modTier0 : U16
  /-- `MOD_TIER[1]`, 4 bits -/
  modTier1 : U16
  /-- `MOD_TIER[2]`, 4 bits -/
  modTier2 : U16
  /-- `RFM_PWR`, 3 bits -/
  pwr : U16
  /-- `RFM_PLL`, 7 bits -/
  pll : U16
  /-- `RFM_LBD_ENABLE` -/
  lbdEnable : Bool
  /-- `RFM_LBD`, 8 bits -/
  lbd : U16
deriving DecidableEq, Repr

/-- Packet-type codes and the device type (decision D60): open parameters that no rule of the block uses. -/
structure PacketCfg where
  /-- `PKT_BROADCAST` -/
  broadcast : BitVec 2
  /-- `PKT_COMMAND` -/
  command : BitVec 2
  /-- `PKT_REPLY` -/
  reply : BitVec 2
  /-- `PKT_SPECIAL` -/
  special : BitVec 2
  /-- `DEVICE_TYPE` -/
  deviceType : BitVec 5
deriving DecidableEq, Repr

/-- The configuration record `cfg`: the block's only set of control registers (rule R60). Every operation may read
it and none writes it; the host may give a new one between operations. -/
structure Cfg where
  setpoint : SetpointCfg
  pid : PidCfg
  boost : BoostCfg
  window : WindowCfg
  battery : BatteryCfg
  motor : MotorCfg
  radio : RadioCfg
  init : InitCfg
  packet : PacketCfg
deriving DecidableEq, Repr

namespace Config

/-- The level the transceiver drives on `SDO` at the n-th sample that no delivered draw covers: a draw of the
environment under no law (rules R13, R137, R400). FREE VALUE. -/
opaque freeSdo : Nat → Bool

/-- What a u8 field holds after an assignment whose value does not fit it: "a spec error, not a wrap" (rule R11),
so no value is stated. FREE VALUE. -/
opaque unfitU8 : Int → U8

/-- As `unfitU8`, for a u16 field (rule R11). FREE VALUE. -/
opaque unfitU16 : Int → U16

/-- As `unfitU8`, for an i16 field (rule R11). FREE VALUE. -/
opaque unfitI16 : Int → I16

/-- As `unfitU8`, for an i32 field (rule R11). FREE VALUE. -/
opaque unfitI32 : Int → I32

/-- What `State.reset` holds as its configuration. The gains of the control law and the three valve percentages are the
source's defaults (rule R7). The other values are OPEN in the spec: they are those of its test vectors (the "vec value"
column of rule R7, rules R60, R406 and R409; DESIGN CHOICE, unsafe: log entry 1), but for `RFM_QUIET`, the four packet-type
codes and `DEVICE_TYPE`, to which the spec gives no value at all, a vector value neither. Their 0, 0, 1, 2, 3 and 0 are
placeholders of this model; in particular no rule says that a broadcast has code 0 or that the codes follow the order of
the list (rule R141). DESIGN CHOICE, unsafe: log entry 27. -/
def vec : Cfg where
  setpoint :=
    { tempMin := 10, tempMax := 60, tFrost := 10, tPreset0 := 10, tPreset1 := 34, tPreset2 := 42, tPreset3 := 46,
      wantedInit := 42, autoInit := false }
  pid :=
    { pFactor := 8, iFactor := 32, p3Factor := 33, valveCenter := 45, valveMin := 30, valveMax := 80,
      valveHysteresis := 64, pidInterval := 4, iMaxCredit := 20, iCreditExpiration := 30, defineIntegratorBlock := 2,
      creditShift := 4, rollbackTol := 20, enableD := false, valveHistoryLen := 1 }
  boost := { boostEnable := false, boostSpDiff := 4, boostErrThld := 200, boostHyst := 50, boostFactor := 16 }
  window :=
    { windowStrategy := .thermal, openDetectionTime := 3, closeDetectionTime := 3, openDetectionDiff := 100,
      closeDetectionDiff := 50, openTimeout := 10, rbLen := 8, hwDebounce := 3 }
  battery := { batLowThld := 2200, batWarningThld := 2400, battErrReversible := false }
  motor :=
    { ignoreImpulses := 2, minImpulses := 50, tol := 2, settleTicks := 3, calLarge := 1000, eyeLow := 3, eyeHigh := 3,
      targetPeriod := 40, pwmDiv := 4, pwmMaxStep := 8, pwmMin := 60, pwmMax := 255, pwmStart := 200, wdtRun := 100,
      wdtCal := 150, nvMaxPulsesInit := 0 }
  radio :=
    { rfmAddr := 5, rfmBaud := 9600, bufCap := 80, pmRx := 0x82D8, pmTx := 0x8238, pmIdle := 0x8208,
      fifoClear := 0xCA81, fifoArm := 0xCA83, rfmQuiet := 0 }
  init :=
    { cfgBits := 0xE7, freq := 0x640, drate := 0x23, p16 := 1, vdi := 0, bwTier0 := 6, bwTier1 := 5, bwTier2 := 4,
      lna := 0, rssi := 0, dfilt := 0xAC, fifoBits := 0x81, afcBits := 0x83, mp := 0, modTier0 := 5, modTier1 := 9,
      modTier2 := 15, pwr := 0, pll := 0x77, lbdEnable := false, lbd := 0x00 }
  packet := { broadcast := 0, command := 1, reply := 2, special := 3, deviceType := 0 }

end Config

end Sys2Proof
end

