-- ==== Sys2Proof/Syntax.lean ====
section
/-! DEFINITION. The operations of the block: one constructor per row of the opcode table, the 36 CMD24 operations of
rule R133 and the 17 RFM12 command words of rule R136. -/

namespace Sys2Proof

/-- One operation (rule R3). Operand types are the operand forms of rule R132 and the fields of rule R136. -/
inductive Instr where
  -- system (rules R600, R601, R514, R515, R516)
  | sysReset
  | sysBoot
  | sysCli
  | sysSei
  | sysSleep
  -- controller (rules R200 to R210)
  | ctlTick
  | ctlUpdate
  | ctlWindowSample
  | ctlWindowHw
  | ctlBattery
  | ctlSchedFollow
  | ctlChangeMode (k : U8)
  | ctlTempChangeInc (d : I8)
  | ctlSetWanted (v : U8)
  | ctlErrAck (m : U8)
  -- motor (rules R300 to R313)
  | motGoto (p : U8)
  | motUpdateCal (r : U8)
  | motGetPosPercent
  | motTimerPulse (q : U16)
  | motTimerStop
  -- SPI register engine (rules R400, R403)
  | spiTransfer16 (w : U16)
  | rfmInit
  -- frame machine (rules R450 to R459)
  | frmTaskAck
  | frmStop
  | frmBufWrite (i b : U8)
  | frmStartTx (n : U8)
  | frmTxSlot
  | frmTxDone (k : U8)
  | frmStartRx
  | frmRxReset
  | frmBufRead (i : U8)
  -- interrupt events (rules R512, R511, R303, R305, R456)
  | evTmrTick
  | evRtcSecond
  | evEyeEdge (level : BitVec 1)
  | evMotorWdt
  | evRfmEdge
  -- RFM12 command words (rule R136), fields in the order of the table
  | rfm12StatusRead (ignored : BitVec 15)
  | rfm12Config (el ef : BitVec 1) (b : BitVec 2) (x : BitVec 4)
  | rfm12PowerMgmt (er ebb et es ex eb ew dc : BitVec 1)
  | rfm12Frequency (f : BitVec 12)
  | rfm12DataRate (cs : BitVec 1) (r : BitVec 7)
  | rfm12RxControl (p16 : BitVec 1) (d : BitVec 2) (bw : BitVec 3) (g : BitVec 2) (r : BitVec 3)
  | rfm12DataFilter (al ml sf : BitVec 1) (f : BitVec 3)
  | rfm12FifoReset (f : BitVec 4) (sp al ff dr : BitVec 1)
  | rfm12SyncPattern (b : BitVec 8)
  | rfm12FifoRead
  | rfm12Afc (a rl : BitVec 2) (st fi oe en : BitVec 1)
  | rfm12TxConfig (mp : BitVec 1) (m : BitVec 4) (p : BitVec 3)
  | rfm12Pll (ob : BitVec 2) (opts : BitVec 5)
  | rfm12TxWrite (t : BitVec 8)
  | rfm12WakeupTimer (r : BitVec 5) (m : BitVec 8)
  | rfm12LowDutyCycle (d : BitVec 7) (en : BitVec 1)
  | rfm12LbdClockDiv (d : BitVec 3) (v : BitVec 4)
deriving DecidableEq, Repr

/-- Where an operation of the map may be issued (rules R133, R135). -/
inductive Context where
  /-- enabled in every state, issued from anywhere (`SYS_RESET`, rule R600) -/
  | any
  /-- T: task context -/
  | task
  /-- I: delivered by an interrupt source -/
  | interrupt
  /-- X: issued only by another operation -/
  | internal
deriving DecidableEq, Repr

/-- The `ctx` column of rule R133; an RFM12 word is sent by task context (rules R136, R144). -/
def Instr.context : Instr → Context
  | .sysReset => .any
  | .ctlUpdate | .ctlWindowHw | .ctlBattery | .ctlSchedFollow | .motTimerPulse _ | .frmTxSlot => .internal
  | .evTmrTick | .evRtcSecond | .evEyeEdge _ | .evMotorWdt | .evRfmEdge => .interrupt
  | .sysBoot | .sysCli | .sysSei | .sysSleep | .ctlTick | .ctlWindowSample | .ctlChangeMode _ | .ctlTempChangeInc _
  | .ctlSetWanted _ | .ctlErrAck _ | .motGoto _ | .motUpdateCal _ | .motGetPosPercent | .motTimerStop
  | .spiTransfer16 _ | .rfmInit | .frmTaskAck | .frmStop | .frmBufWrite _ _ | .frmStartTx _ | .frmTxDone _
  | .frmStartRx | .frmRxReset | .frmBufRead _ => .task
  | .rfm12StatusRead _ | .rfm12Config _ _ _ _ | .rfm12PowerMgmt _ _ _ _ _ _ _ _ | .rfm12Frequency _
  | .rfm12DataRate _ _ | .rfm12RxControl _ _ _ _ _ | .rfm12DataFilter _ _ _ _ | .rfm12FifoReset _ _ _ _ _
  | .rfm12SyncPattern _ | .rfm12FifoRead | .rfm12Afc _ _ _ _ _ _ | .rfm12TxConfig _ _ _ | .rfm12Pll _ _
  | .rfm12TxWrite _ | .rfm12WakeupTimer _ _ | .rfm12LowDutyCycle _ _ | .rfm12LbdClockDiv _ _ => .task

/-- Whether the operation is one RFM12 command word (rule R136) rather than a CMD24 word. -/
def Instr.isRfm12 : Instr → Bool
  | .rfm12StatusRead _ | .rfm12Config _ _ _ _ | .rfm12PowerMgmt _ _ _ _ _ _ _ _ | .rfm12Frequency _
  | .rfm12DataRate _ _ | .rfm12RxControl _ _ _ _ _ | .rfm12DataFilter _ _ _ _ | .rfm12FifoReset _ _ _ _ _
  | .rfm12SyncPattern _ | .rfm12FifoRead | .rfm12Afc _ _ _ _ _ _ | .rfm12TxConfig _ _ _ | .rfm12Pll _ _
  | .rfm12TxWrite _ | .rfm12WakeupTimer _ _ | .rfm12LowDutyCycle _ _ | .rfm12LbdClockDiv _ _ => true
  | .sysReset | .sysBoot | .sysCli | .sysSei | .sysSleep | .ctlTick | .ctlUpdate | .ctlWindowSample | .ctlWindowHw
  | .ctlBattery | .ctlSchedFollow | .ctlChangeMode _ | .ctlTempChangeInc _ | .ctlSetWanted _ | .ctlErrAck _
  | .motGoto _ | .motUpdateCal _ | .motGetPosPercent | .motTimerPulse _ | .motTimerStop | .spiTransfer16 _ | .rfmInit
  | .frmTaskAck | .frmStop | .frmBufWrite _ _ | .frmStartTx _ | .frmTxSlot | .frmTxDone _ | .frmStartRx | .frmRxReset
  | .frmBufRead _ | .evTmrTick | .evRtcSecond | .evEyeEdge _ | .evMotorWdt | .evRfmEdge => false

end Sys2Proof
end

