-- ==== Sys2Proof/Decode.lean ====
section
/-! DEFINITION. The decoder and the encoder of the CMD24 operation words (rules R131 to R134) and of the RFM12 command
words (rule R136). Both are total; a word with no operation is rejected by name. -/

namespace Sys2Proof

/-- Why a CMD24 word is no operation (rule R134). -/
inductive DecodeError where
  /-- the op code is not in the map of rule R133 -/
  | undefOp
  /-- must-be-zero operand bits are not zero (rule R132) -/
  | reservedBits
deriving DecidableEq, Repr

/-- `op`, bits 23..16 (rule R131). -/
def cmdOp (w : Cmd24) : U8 := w.extractLsb' 16 8

/-- `argH`, bits 15..8 (rule R131). -/
def cmdArgH (w : Cmd24) : U8 := w.extractLsb' 8 8

/-- `argL`, bits 7..0 (rule R131). -/
def cmdArgL (w : Cmd24) : U8 := w.extractLsb' 0 8

/-- `arg = {argH, argL}` (rule R131). -/
def cmdArg (w : Cmd24) : U16 := w.extractLsb' 0 16

/-- Form `NONE`: `arg` must be 0 (rule R132). -/
def formNone (w : Cmd24) (i : Instr) : Except DecodeError Instr :=
  if cmdArg w = 0 then .ok i else .error .reservedBits

/-- Forms `U8` and `I8`: `argH` must be 0; the operand is `argL`, read unsigned or signed by its rule (rule R132). -/
def formByte (w : Cmd24) (i : U8 → Instr) : Except DecodeError Instr :=
  if cmdArgH w = 0 then .ok (i (cmdArgL w)) else .error .reservedBits

/-- Form `U16`: the operand is `arg` (rule R132). -/
def formU16 (w : Cmd24) (i : U16 → Instr) : Except DecodeError Instr :=
  .ok (i (cmdArg w))

/-- Form `IB`: index `argH` and byte `argL` (rule R132). -/
def formIndexByte (w : Cmd24) (i : U8 → U8 → Instr) : Except DecodeError Instr :=
  .ok (i (cmdArgH w) (cmdArgL w))

/-- Form `BIT`: `arg[15:1]` must be 0; the operand is `arg[0]` (rule R132). -/
def formBit (w : Cmd24) (i : BitVec 1 → Instr) : Except DecodeError Instr :=
  if w.extractLsb' 1 15 = 0 then .ok (i (w.extractLsb' 0 1)) else .error .reservedBits

/-- The operation of a CMD24 word (rules R133, R134). -/
def decodeCmd24 (w : Cmd24) : Except DecodeError Instr :=
  match (cmdOp w).toNat with
  | 0x01 => formNone w .sysReset
  | 0x02 => formNone w .sysBoot
  | 0x03 => formNone w .sysCli
  | 0x04 => formNone w .sysSei
  | 0x05 => formNone w .sysSleep
  | 0x10 => formNone w .ctlTick
  | 0x11 => formNone w .ctlUpdate
  | 0x12 => formNone w .ctlWindowSample
  | 0x13 => formNone w .ctlWindowHw
  | 0x14 => formNone w .ctlBattery
  | 0x15 => formNone w .ctlSchedFollow
  | 0x16 => formByte w .ctlChangeMode
  | 0x17 => formByte w .ctlTempChangeInc
  | 0x18 => formByte w .ctlSetWanted
  | 0x19 => formByte w .ctlErrAck
  | 0x20 => formByte w .motGoto
  | 0x21 => formByte w .motUpdateCal
  | 0x22 => formNone w .motGetPosPercent
  | 0x23 => formU16 w .motTimerPulse
  | 0x24 => formNone w .motTimerStop
  | 0x30 => formU16 w .spiTransfer16
  | 0x31 => formNone w .rfmInit
  | 0x37 => formNone w .frmTaskAck
  | 0x38 => formNone w .frmStop
  | 0x39 => formIndexByte w .frmBufWrite
  | 0x3A => formByte w .frmStartTx
  | 0x3B => formNone w .frmTxSlot
  | 0x3C => formByte w .frmTxDone
  | 0x3D => formNone w .frmStartRx
  | 0x3E => formNone w .frmRxReset
  | 0x3F => formByte w .frmBufRead
  | 0x40 => formNone w .evTmrTick
  | 0x41 => formNone w .evRtcSecond
  | 0x42 => formBit w .evEyeEdge
  | 0x43 => formNone w .evMotorWdt
  | 0x44 => formNone w .evRfmEdge
  | _ => .error .undefOp

/-- The RFM12 commands whose fixed bits are the whole high byte, or the high byte and some of the low one (rule R136). -/
def decodeRfm12High (w : U16) : Option Instr :=
  match (w.extractLsb' 8 8).toNat with
  | 0x80 => some (.rfm12Config (w.extractLsb' 7 1) (w.extractLsb' 6 1) (w.extractLsb' 4 2) (w.extractLsb' 0 4))
  | 0x82 =>
    some (.rfm12PowerMgmt (w.extractLsb' 7 1) (w.extractLsb' 6 1) (w.extractLsb' 5 1) (w.extractLsb' 4 1)
      (w.extractLsb' 3 1) (w.extractLsb' 2 1) (w.extractLsb' 1 1) (w.extractLsb' 0 1))
  | 0xC6 => some (.rfm12DataRate (w.extractLsb' 7 1) (w.extractLsb' 0 7))
  | 0xC2 =>
    if w.extractLsb' 5 1 = 1 ∧ w.extractLsb' 3 1 = 1 then
      some (.rfm12DataFilter (w.extractLsb' 7 1) (w.extractLsb' 6 1) (w.extractLsb' 4 1) (w.extractLsb' 0 3))
    else none
  | 0xCA =>
    some (.rfm12FifoReset (w.extractLsb' 4 4) (w.extractLsb' 3 1) (w.extractLsb' 2 1) (w.extractLsb' 1 1)
      (w.extractLsb' 0 1))
  | 0xCE => some (.rfm12SyncPattern (w.extractLsb' 0 8))
  | 0xB0 => if w.extractLsb' 0 8 = 0 then some .rfm12FifoRead else none
  | 0xC4 =>
    some (.rfm12Afc (w.extractLsb' 6 2) (w.extractLsb' 4 2) (w.extractLsb' 3 1) (w.extractLsb' 2 1)
      (w.extractLsb' 1 1) (w.extractLsb' 0 1))
  | 0xCC => if w.extractLsb' 7 1 = 0 then some (.rfm12Pll (w.extractLsb' 5 2) (w.extractLsb' 0 5)) else none
  | 0xB8 => some (.rfm12TxWrite (w.extractLsb' 0 8))
  | 0xC8 => some (.rfm12LowDutyCycle (w.extractLsb' 1 7) (w.extractLsb' 0 1))
  | 0xC0 => if w.extractLsb' 4 1 = 0 then some (.rfm12LbdClockDiv (w.extractLsb' 5 3) (w.extractLsb' 0 4)) else none
  | _ => none

/-- The RFM12 command of a 16-bit bus word; `none` for a reserved word (rules R136, R138). -/
def decodeRfm12 (w : U16) : Option Instr :=
  if w.extractLsb' 15 1 = 0 then some (.rfm12StatusRead (w.extractLsb' 0 15))
  else if w.extractLsb' 13 3 = 0b111 then some (.rfm12WakeupTimer (w.extractLsb' 8 5) (w.extractLsb' 0 8))
  else if w.extractLsb' 12 4 = 0b1010 then some (.rfm12Frequency (w.extractLsb' 0 12))
  else if w.extractLsb' 11 5 = 0b10010 then
    some (.rfm12RxControl (w.extractLsb' 10 1) (w.extractLsb' 8 2) (w.extractLsb' 5 3) (w.extractLsb' 3 2)
      (w.extractLsb' 0 3))
  else if w.extractLsb' 9 7 = 0b1001100 then
    if w.extractLsb' 3 1 = 0 then
      some (.rfm12TxConfig (w.extractLsb' 8 1) (w.extractLsb' 4 4) (w.extractLsb' 0 3))
    else none
  else decodeRfm12High w

/-- The instruction the decoder reads from a table row's bits: 24 bits are a CMD24 word, 16 bits an RFM12 word. -/
def decodeTableWord (nbits w : Nat) : Option Instr :=
  if nbits = 24 then (decodeCmd24 (BitVec.ofNat 24 w)).toOption
  else if nbits = 16 then decodeRfm12 (BitVec.ofNat 16 w)
  else none

/-! The encoder. -/

/-- A CMD24 word of form `NONE` (rules R131, R132). -/
def wordNone (op : U8) : Cmd24 := op ++ (0 : U16)

/-- A CMD24 word of form `U8` or `I8` (rules R131, R132). -/
def wordByte (op b : U8) : Cmd24 := op ++ ((0 : U8) ++ b)

/-- A CMD24 word of form `U16` (rules R131, R132). -/
def wordU16 (op : U8) (v : U16) : Cmd24 := op ++ v

/-- A CMD24 word of form `IB` (rules R131, R132). -/
def wordIndexByte (op i b : U8) : Cmd24 := op ++ (i ++ b)

/-- A CMD24 word of form `BIT` (rules R131, R132). -/
def wordBit (op : U8) (b : BitVec 1) : Cmd24 := op ++ ((0 : BitVec 15) ++ b)

/-- A word of one of the encodings of rule R130. -/
inductive OpWord where
  /-- a 24-bit operation word -/
  | cmd24 (w : Cmd24)
  /-- a 16-bit transceiver command word -/
  | rfm12 (w : U16)
deriving DecidableEq, Repr

/-- The word of an operation: `(op << 16) | arg` for CMD24 (rules R131, R133, R143), the command pattern with its fields
for RFM12 (rule R136). -/
def encode : Instr → OpWord
  | .sysReset => .cmd24 (wordNone 0x01)
  | .sysBoot => .cmd24 (wordNone 0x02)
  | .sysCli => .cmd24 (wordNone 0x03)
  | .sysSei => .cmd24 (wordNone 0x04)
  | .sysSleep => .cmd24 (wordNone 0x05)
  | .ctlTick => .cmd24 (wordNone 0x10)
  | .ctlUpdate => .cmd24 (wordNone 0x11)
  | .ctlWindowSample => .cmd24 (wordNone 0x12)
  | .ctlWindowHw => .cmd24 (wordNone 0x13)
  | .ctlBattery => .cmd24 (wordNone 0x14)
  | .ctlSchedFollow => .cmd24 (wordNone 0x15)
  | .ctlChangeMode k => .cmd24 (wordByte 0x16 k)
  | .ctlTempChangeInc d => .cmd24 (wordByte 0x17 d)
  | .ctlSetWanted v => .cmd24 (wordByte 0x18 v)
  | .ctlErrAck m => .cmd24 (wordByte 0x19 m)
  | .motGoto p => .cmd24 (wordByte 0x20 p)
  | .motUpdateCal r => .cmd24 (wordByte 0x21 r)
  | .motGetPosPercent => .cmd24 (wordNone 0x22)
  | .motTimerPulse q => .cmd24 (wordU16 0x23 q)
  | .motTimerStop => .cmd24 (wordNone 0x24)
  | .spiTransfer16 w => .cmd24 (wordU16 0x30 w)
  | .rfmInit => .cmd24 (wordNone 0x31)
  | .frmTaskAck => .cmd24 (wordNone 0x37)
  | .frmStop => .cmd24 (wordNone 0x38)
  | .frmBufWrite i b => .cmd24 (wordIndexByte 0x39 i b)
  | .frmStartTx n => .cmd24 (wordByte 0x3A n)
  | .frmTxSlot => .cmd24 (wordNone 0x3B)
  | .frmTxDone k => .cmd24 (wordByte 0x3C k)
  | .frmStartRx => .cmd24 (wordNone 0x3D)
  | .frmRxReset => .cmd24 (wordNone 0x3E)
  | .frmBufRead i => .cmd24 (wordByte 0x3F i)
  | .evTmrTick => .cmd24 (wordNone 0x40)
  | .evRtcSecond => .cmd24 (wordNone 0x41)
  | .evEyeEdge l => .cmd24 (wordBit 0x42 l)
  | .evMotorWdt => .cmd24 (wordNone 0x43)
  | .evRfmEdge => .cmd24 (wordNone 0x44)
  | .rfm12StatusRead x => .rfm12 (0#1 ++ x)
  | .rfm12Config el ef b x => .rfm12 (0x80#8 ++ (el ++ (ef ++ (b ++ x))))
  | .rfm12PowerMgmt er ebb et es ex eb ew dc =>
    .rfm12 (0x82#8 ++ (er ++ (ebb ++ (et ++ (es ++ (ex ++ (eb ++ (ew ++ dc))))))))
  | .rfm12Frequency f => .rfm12 (0b1010#4 ++ f)
  | .rfm12DataRate cs r => .rfm12 (0xC6#8 ++ (cs ++ r))
  | .rfm12RxControl p16 d bw g r => .rfm12 (0b10010#5 ++ (p16 ++ (d ++ (bw ++ (g ++ r)))))
  | .rfm12DataFilter al ml sf f => .rfm12 (0xC2#8 ++ (al ++ (ml ++ (1#1 ++ (sf ++ (1#1 ++ f))))))
  | .rfm12FifoReset f sp al ff dr => .rfm12 (0xCA#8 ++ (f ++ (sp ++ (al ++ (ff ++ dr)))))
  | .rfm12SyncPattern b => .rfm12 (0xCE#8 ++ b)
  | .rfm12FifoRead => .rfm12 (0xB0#8 ++ 0#8)
  | .rfm12Afc a rl st fi oe en => .rfm12 (0xC4#8 ++ (a ++ (rl ++ (st ++ (fi ++ (oe ++ en))))))
  | .rfm12TxConfig mp m p => .rfm12 (0b1001100#7 ++ (mp ++ (m ++ (0#1 ++ p))))
  | .rfm12Pll ob opts => .rfm12 (0xCC#8 ++ (0#1 ++ (ob ++ opts)))
  | .rfm12TxWrite t => .rfm12 (0xB8#8 ++ t)
  | .rfm12WakeupTimer r m => .rfm12 (0b111#3 ++ (r ++ m))
  | .rfm12LowDutyCycle d en => .rfm12 (0xC8#8 ++ (d ++ en))
  | .rfm12LbdClockDiv d v => .rfm12 (0xC0#8 ++ (d ++ (0#1 ++ v)))

/-- The decoder of either encoding; a reserved word of either has no operation (rules R134, R138). -/
def decodeWord : OpWord → Option Instr
  | .cmd24 w => (decodeCmd24 w).toOption
  | .rfm12 w => decodeRfm12 w

/-- The 16 bits of an RFM12 command word as they go over the bus (rule R136); a CMD24 operation has none. -/
def rfm12WordOf (i : Instr) : U16 :=
  match encode i with
  | .rfm12 w => w
  | .cmd24 _ => 0

end Sys2Proof
end

