-- ==== Sys2Proof/Machine/State.lean ====
section
/-! DEFINITION. The state of the block (rules R30 to R71) as plain data, the outside world it reads (rules R70, R500,
R523), and the state right after reset (rules R600, R603). -/

namespace Sys2Proof.Machine

/-- H-bridge drive direction: stop 0, open 1, close 2 (rules R41, R42). -/
inductive Direction where
  | stop
  | opening
  | closing
deriving DecidableEq, Repr

/-- The sign of an error or of a boost: -1, 0 or +1 (rule R31 `lastErrorSign`, `boostDir`). -/
inductive Sign where
  | neg
  | zero
  | pos
deriving DecidableEq, Repr

/-- `calibrationStep` (rule R43). -/
inductive CalStep where
  /-- -1, error -/
  | error
  /-- -2, uncalibrated -/
  | uncalibrated
  /-- 0, calibrated and idle -/
  | calibrated
  /-- 1, pending start -/
  | pendingStart
  /-- 2, driving to the open endstop -/
  | toOpen
  /-- 3, driving to the close endstop -/
  | toClose
deriving DecidableEq, Repr

/-- Why the drive was cut: NONE 0, TARGET 1, TIMEOUT 2 (rule R41). -/
inductive StopReason where
  | none
  | target
  | timeout
deriving DecidableEq, Repr

/-- The frame machine's mode: stop 0, start_tx 1, tx 2, tx_done 3, rx 4, rx_owf 5 (rules R50, R51). -/
inductive Mode where
  | stop
  | startTx
  | tx
  | txDone
  | rx
  | rxOwf
deriving DecidableEq, Repr

/-- The recorded faults of rule R503, codes 1 to 4. -/
inductive FaultCode where
  /-- F_UNWRITTEN, 1 -/
  | unwritten
  /-- F_BUF_RANGE, 2 -/
  | bufRange
  /-- F_BUF_OWNER, 3 -/
  | bufOwner
  /-- F_TX_SIZE, 4 -/
  | txSize
deriving DecidableEq, Repr

/-- The reasons of rule R504 for which an operation is refused. -/
inductive RefuseReason where
  /-- R_UNDEF_OP -/
  | undefOp
  /-- R_RESERVED_BITS -/
  | reservedBits
  /-- R_INTERNAL -/
  | internal
  /-- R_CONTEXT -/
  | context
  /-- R_BAD_ARG -/
  | badArg
  /-- R_MODE -/
  | mode
  /-- R_CFG -/
  | cfg
  /-- R_HISTORY_LEN -/
  | historyLen
  /-- R_D_TERM -/
  | dTerm
  /-- R_NOT_PENDING -/
  | notPending
  /-- R_NOT_BOOTED -/
  | notBooted
deriving DecidableEq, Repr

/-- The frame buffer (rules R50, R100, R102): the bytes written since reset, addresses strictly rising. An address
that is not listed is unwritten and has no value. -/
abbrev Memory := List Host.Cell

/-- One entry of the event history `s.hist`: a word sent on the bus and its response (rules R71, R400). -/
inductive HistEntry where
  | spiWord (w r : U16)
deriving DecidableEq, Repr

/-- Controller state (rule R31). -/
structure CtlState where
  wantedTemperature : U8
  lastAppliedTemperature : U8
  scheduleTemperatureType : U8
  autoMode : Bool
  windowOpenState : U8
  /-- i32 -/
  sumError : I32
  /-- i8 -/
  integratorCredit : I8
  creditExpiration : U8
  blockCount : U8
  /-- i32 -/
  snapSum : I32
  snapAbs : U16
  lastErrorSign : Sign
  lastAbsError : U16
  /-- `valveHistory[0]`: the history has length 1 in every configuration that is not refused (rule R37) -/
  valveHistory0 : U8
  errorFlags : U8
  pidCounter : U8
  boostSecs : U16
  boostDir : Sign
  savedAuto : Bool
  savedType : U8
  savedWanted : U8
  /-- i16 samples, oldest first -/
  winHist : List I16
  reedTrusted : Bool
  reedCount : U8
deriving DecidableEq, Repr

/-- Motor state (rule R41). -/
structure MotState where
  direction : Direction
  lastDir : Direction
  /-- i16 -/
  positionPulses : I16
  maxPulses : U16
  /-- i16 -/
  targetPulses : I16
  calibrationStep : CalStep
  pwmDuty : U8
  overshootPulses : U8
  stopReason : StopReason
  ignoreCount : U8
  wdtArmed : Bool
  wdtDeadline : Nat
  eyeLevel : BitVec 1
  eyeLastTime : Nat
  lastPulseTime : Nat
  settleCount : U8
deriving DecidableEq, Repr

/-- Frame-machine state (rule R50). -/
structure FrmState where
  mode : Mode
  frameBuffer : Memory
  frameSize : U8
  framePos : U8
deriving DecidableEq, Repr

/-- The SPI output pins (rule R53). -/
structure SpiPins where
  nSel : Bool
  sck : Bool
  sdi : Bool
deriving DecidableEq, Repr

/-- System state (rule R54). -/
structure SysState where
  taskFlags : U8
  gie : Bool
  rfmIrqEn : Bool
  inIsr : Bool
  sleeping : Bool
  booted : Bool
  halted : Bool
  fault : Option (FaultCode × U8)
  refused : Bool
  now : Nat
deriving DecidableEq, Repr

/-- Persisted state (rule R52). -/
structure NvState where
  /-- 0 = none -/
  persistedMaxPulses : U16
deriving DecidableEq, Repr

/-- The input ports of rule R70, as the environment drives them for one operation. -/
structure Ports where
  /-- i16, 1/100 °C -/
  tempAvg : I16
  tempValid : Bool
  /-- i16, mV -/
  batMv : I16
  batValid : Bool
  schedType : U8
  mounted : Bool
  /-- true = open -/
  reed : Bool
  syncLost : Bool
  /-- 0..59 -/
  second : Fin 60
  eye : BitVec 1
  /-- the levels of `SDO` at the coming clocks, first clock first; when they run out a sample is `Config.freeSdo` -/
  sdo : List Bool
  rfmReady : Bool
  layoutOk : Bool
deriving DecidableEq, Repr

/-- Who issues the operation of this step (rules R133, R135). -/
inductive Issuer where
  /-- the task context: the task loop or a host command -/
  | task
  /-- an interrupt source -/
  | source
  /-- another operation, inside its own step -/
  | operation
deriving DecidableEq, Repr

/-- Who may bring an operation to the block from outside (rules R500, R523): only another operation issues an
internal one, so the environment has two routes. -/
inductive Route where
  | task
  | source
deriving DecidableEq, Repr

/-- A configuration the host loads (rules R60, R61): the raw values and the bounds and defaults of each field. -/
structure CfgLoad where
  raw : Cfg
  /-- `cfg_min(f)` -/
  lo : Cfg
  /-- `cfg_max(f)` -/
  hi : Cfg
  /-- `cfg_default(f)` -/
  dflt : Cfg
deriving DecidableEq, Repr

/-- One move of the environment (rules R500, R523): an operation word, how it is issued, the input ports at that step,
and the new configuration that the host gives just before it, if any. -/
structure Delivery where
  route : Route
  word : OpWord
  ports : Ports
  load : Option CfgLoad
deriving DecidableEq, Repr

/-- The outside of the block and the model's own bookkeeping: no field of it is state of the block. -/
structure Env where
  /-- the moves the environment will make, next first -/
  script : List Delivery
  /-- the input ports at the current step (rule R70) -/
  ports : Ports
  /-- the issuer of the current operation -/
  issuer : Issuer
  /-- how many `SDO` samples took a free value -/
  draws : Nat
  /-- the reason that the last refusal reports (rule R504) -/
  report : Option RefuseReason
deriving DecidableEq, Repr

/-- The block state: the six parts of rule R30, the configuration record (rule R60), the event history and the
result port (rule R71), and the outside world. -/
structure State where
  ctl : CtlState
  mot : MotState
  frm : FrmState
  spi : SpiPins
  sys : SysState
  nv : NvState
  cfg : Cfg
  /-- oldest first -/
  hist : List HistEntry
  /-- the result of the last operation that returned one -/
  res : U16
  env : Env
deriving DecidableEq, Repr

/-- The faults that stop the machine outright. There is none: every fault the spec describes is a mark in the state
that `SYS_RESET` clears (rule R503), so a step that raises one has a next state. -/
inductive Fault where
deriving DecidableEq, Repr

/-- The refusals that stop the machine outright. The refusals of rule R504 are a mark in the state and have a next
state; the one constructor here stands for an operation without a meaning. -/
inductive Refusal where
  /-- raised by `exec` for an operation that has no meaning yet; safe, since nothing is claimed of such a step. No
  operation of this model raises it. -/
  | notModelled (mnemonic : String)
deriving DecidableEq, Repr

/-- The inputs at reset: the defaults of the test vectors (95_test_vectors.md section 0), with `layoutOk` true. The spec
gives inputs no value of their own. DESIGN CHOICE, unsafe: log entry 2. -/
def Ports.idle : Ports where
  tempAvg := 0
  tempValid := false
  batMv := 0
  batValid := false
  schedType := 0xFF
  mounted := true
  reed := false
  syncLost := false
  second := 0
  eye := 0
  sdo := []
  rfmReady := true
  layoutOk := true

/-- The machine after power-up and `SYS_RESET` (rules R600, R603), with the values of `Config.vec` for the open parameters
`WANTED_INIT`, `AUTO_INIT`, `NV_MAXPULSES_INIT` and `cfg` (DESIGN CHOICE, unsafe: log entries 1, 2, 3, 27). -/
def State.reset : State where
  ctl :=
    { wantedTemperature := 42, lastAppliedTemperature := 0xFF, scheduleTemperatureType := 0xFF, autoMode := false,
      windowOpenState := 0, sumError := 0, integratorCredit := 0, creditExpiration := 0, blockCount := 0, snapSum := 0,
      snapAbs := 0, lastErrorSign := .zero, lastAbsError := 0, valveHistory0 := 0, errorFlags := 0, pidCounter := 0,
      boostSecs := 0, boostDir := .zero, savedAuto := false, savedType := 0xFF, savedWanted := 42, winHist := [],
      reedTrusted := false, reedCount := 0 }
  mot :=
    { direction := .stop, lastDir := .stop, positionPulses := 0, maxPulses := 0, targetPulses := 0,
      calibrationStep := .uncalibrated, pwmDuty := 0, overshootPulses := 0, stopReason := .none, ignoreCount := 0,
      wdtArmed := false, wdtDeadline := 0, eyeLevel := 0, eyeLastTime := 0, lastPulseTime := 0, settleCount := 0 }
  frm := { mode := .stop, frameBuffer := [], frameSize := 0, framePos := 0 }
  spi := { nSel := true, sck := false, sdi := false }
  sys :=
    { taskFlags := 0, gie := false, rfmIrqEn := false, inIsr := false, sleeping := false, booted := false,
      halted := false, fault := .none, refused := false, now := 0 }
  nv := { persistedMaxPulses := 0 }
  cfg := Config.vec
  hist := []
  res := 0
  env := { script := [], ports := Ports.idle, issuer := .task, draws := 0, report := .none }

end Sys2Proof.Machine
end

