-- ==== Sys2Proof/Machine/Flags.lean ====
section
/-! DEFINITION. The error flags (rule R38) and the task flags (rules R505, R506). -/

namespace Sys2Proof.Machine

/-- ERR_BATT_LOW, bit 7 (rule R38). -/
def errBattLow : U8 := 0x80
/-- ERR_BATT_WARN, bit 6 (rule R38). -/
def errBattWarn : U8 := 0x40
/-- ERR_MOUNT, bit 5 (rule R38). -/
def errMount : U8 := 0x20
/-- ERR_MOTOR, bit 4 (rule R38). -/
def errMotor : U8 := 0x10
/-- ERR_RFM_SYNC, bit 3 (rule R38). -/
def errRfmSync : U8 := 0x08

/-- The flags `CTL_ERR_ACK` may clear: 0xC8 (rule R210). -/
def errAckable : U8 := errBattLow ||| errBattWarn ||| errRfmSync

/-- Set the error bits of a mask. -/
def CtlState.setErr (c : CtlState) (mask : U8) : CtlState := { c with errorFlags := c.errorFlags ||| mask }

/-- Clear the error bits of a mask. -/
def CtlState.clearErr (c : CtlState) (mask : U8) : CtlState := { c with errorFlags := c.errorFlags &&& ~~~mask }

/-- Set the error bits of a mask. -/
def State.setErr (s : State) (mask : U8) : State := { s with ctl := s.ctl.setErr mask }

/-- Clear the error bits of a mask. -/
def State.clearErr (s : State) (mask : U8) : State := { s with ctl := s.ctl.clearErr mask }

/-- The task flags (rule R505). -/
inductive TaskFlag where
  /-- TASK_TICK, bit 0 -/
  | tick
  /-- TASK_MOTOR_STOP, bit 1 -/
  | motorStop
  /-- TASK_RFM, bit 2 -/
  | rfm
deriving DecidableEq, Repr

/-- The bit of a task flag (rule R505). -/
def taskMask : TaskFlag → U8
  | .tick => 0x01
  | .motorStop => 0x02
  | .rfm => 0x04

/-- The flag is pending. -/
def State.pending (s : State) (t : TaskFlag) : Bool := s.sys.taskFlags &&& taskMask t != 0

/-- `post(T)`: set the flag and wake the loop (rule R506). -/
def State.post (s : State) (t : TaskFlag) : State :=
  { s with sys := { s.sys with taskFlags := s.sys.taskFlags ||| taskMask t, sleeping := false } }

/-- Clear a task flag (rules R301, R505, R506). -/
def State.clearTask (s : State) (t : TaskFlag) : State :=
  { s with sys := { s.sys with taskFlags := s.sys.taskFlags &&& ~~~taskMask t } }

end Sys2Proof.Machine
end

