-- ==== Sys2Proof/Machine/Legal.lean ====
section
/-! DEFINITION. Which configurations the block accepts (rules R37, R61, R252, R409), in the order of rule R504, and the
load-time replacement of out-of-range values (rules R60, R61, R250). -/

namespace Sys2Proof.Machine

/-- The field fits its width (rule R409). -/
def fits (v : U16) (width : Nat) : Bool := decide (v.toNat < 2 ^ width)

/-- Every RFM12 initialisation field fits its width (rule R409). -/
def initFits (c : InitCfg) : Bool :=
  fits c.cfgBits 8 && fits c.freq 12 && fits c.drate 8 && fits c.p16 1 && fits c.vdi 2 && fits c.bwTier0 3
    && fits c.bwTier1 3 && fits c.bwTier2 3 && fits c.lna 2 && fits c.rssi 3 && fits c.dfilt 8 && fits c.fifoBits 8
    && fits c.afcBits 8 && fits c.mp 1 && fits c.modTier0 4 && fits c.modTier1 4 && fits c.modTier2 4 && fits c.pwr 3
    && fits c.pll 7 && fits c.lbd 8

/-- The spec's own bounds of rule R61, but for the two that rule R504 reports under names of their own. Rule R61 bounds
neither the command words of rule R406 (any 16 bits are accepted, DESIGN CHOICE: log entry 28) nor `T_FROST` (log entry
29). -/
def boundsHold (c : Cfg) : Bool :=
  decide (1 ≤ c.setpoint.tempMin.toNat) && decide (c.setpoint.tempMax.toNat + 1 ≤ 0xFE)
    && decide (c.setpoint.tempMin.toNat ≤ c.setpoint.tempMax.toNat)
    && decide (c.pid.valveMin.toNat ≤ c.pid.valveMax.toNat) && decide (c.pid.valveMax.toNat ≤ 100)
    && decide (c.pid.iMaxCredit.toNat ≤ 127) && decide (c.motor.pwmMin.toNat ≤ c.motor.pwmMax.toNat)
    && decide (1 ≤ c.motor.pwmDiv.toNat) && decide (1 ≤ c.motor.calLarge.toInt)
    && decide (c.motor.calLarge.toInt ≤ 16383)
    && decide (max c.window.openDetectionTime.toNat c.window.closeDetectionTime.toNat ≤ c.window.rbLen.toNat)
    && decide (1 ≤ c.radio.bufCap.toNat) && decide (c.battery.batLowThld.toNat ≤ c.battery.batWarningThld.toNat)

/-- What is wrong with a configuration, in the order R_HISTORY_LEN, R_D_TERM, R_CFG (rules R37, R61, R252, R409,
R504); `none` when it is legal. -/
def cfgProblem (c : Cfg) : Option RefuseReason :=
  if c.pid.valveHistoryLen ≠ 1 then some .historyLen
  else if c.pid.enableD then some .dTerm
  else if boundsHold c && initFits c.init then none
  else some .cfg

/-- A value inside its declared bounds, else the compiled-in default (rule R61). -/
def inBounds {w : Nat} (lo hi dflt raw : BitVec w) : BitVec w :=
  if lo.toNat ≤ raw.toNat ∧ raw.toNat ≤ hi.toNat then raw else dflt

/-- As `inBounds`, for a signed field (rule R61). -/
def inBoundsSigned {w : Nat} (lo hi dflt raw : BitVec w) : BitVec w :=
  if lo.toInt ≤ raw.toInt ∧ raw.toInt ≤ hi.toInt then raw else dflt

/-- The load-time replacement of `SetpointCfg`, field by field (rule R61). -/
def loadSetpointCfg (raw lo hi dflt : SetpointCfg) : SetpointCfg where
  tempMin := inBounds lo.tempMin hi.tempMin dflt.tempMin raw.tempMin
  tempMax := inBounds lo.tempMax hi.tempMax dflt.tempMax raw.tempMax
  tFrost := inBounds lo.tFrost hi.tFrost dflt.tFrost raw.tFrost
  tPreset0 := inBounds lo.tPreset0 hi.tPreset0 dflt.tPreset0 raw.tPreset0
  tPreset1 := inBounds lo.tPreset1 hi.tPreset1 dflt.tPreset1 raw.tPreset1
  tPreset2 := inBounds lo.tPreset2 hi.tPreset2 dflt.tPreset2 raw.tPreset2
  tPreset3 := inBounds lo.tPreset3 hi.tPreset3 dflt.tPreset3 raw.tPreset3
  wantedInit := inBounds lo.wantedInit hi.wantedInit dflt.wantedInit raw.wantedInit
  autoInit := raw.autoInit

/-- The load-time replacement of `PidCfg`, field by field (rule R61). -/
def loadPidCfg (raw lo hi dflt : PidCfg) : PidCfg where
  pFactor := inBounds lo.pFactor hi.pFactor dflt.pFactor raw.pFactor
  iFactor := inBounds lo.iFactor hi.iFactor dflt.iFactor raw.iFactor
  p3Factor := inBounds lo.p3Factor hi.p3Factor dflt.p3Factor raw.p3Factor
  valveCenter := inBounds lo.valveCenter hi.valveCenter dflt.valveCenter raw.valveCenter
  valveMin := inBounds lo.valveMin hi.valveMin dflt.valveMin raw.valveMin
  valveMax := inBounds lo.valveMax hi.valveMax dflt.valveMax raw.valveMax
  valveHysteresis := inBounds lo.valveHysteresis hi.valveHysteresis dflt.valveHysteresis raw.valveHysteresis
  pidInterval := inBounds lo.pidInterval hi.pidInterval dflt.pidInterval raw.pidInterval
  iMaxCredit := inBounds lo.iMaxCredit hi.iMaxCredit dflt.iMaxCredit raw.iMaxCredit
  iCreditExpiration := inBounds lo.iCreditExpiration hi.iCreditExpiration dflt.iCreditExpiration raw.iCreditExpiration
  defineIntegratorBlock := inBounds lo.defineIntegratorBlock hi.defineIntegratorBlock dflt.defineIntegratorBlock raw.defineIntegratorBlock
  creditShift := inBounds lo.creditShift hi.creditShift dflt.creditShift raw.creditShift
  rollbackTol := inBounds lo.rollbackTol hi.rollbackTol dflt.rollbackTol raw.rollbackTol
  enableD := raw.enableD
  valveHistoryLen := inBounds lo.valveHistoryLen hi.valveHistoryLen dflt.valveHistoryLen raw.valveHistoryLen

/-- The load-time replacement of `BoostCfg`, field by field (rule R61). -/
def loadBoostCfg (raw lo hi dflt : BoostCfg) : BoostCfg where
  boostEnable := raw.boostEnable
  boostSpDiff := inBounds lo.boostSpDiff hi.boostSpDiff dflt.boostSpDiff raw.boostSpDiff
  boostErrThld := inBounds lo.boostErrThld hi.boostErrThld dflt.boostErrThld raw.boostErrThld
  boostHyst := inBounds lo.boostHyst hi.boostHyst dflt.boostHyst raw.boostHyst
  boostFactor := inBounds lo.boostFactor hi.boostFactor dflt.boostFactor raw.boostFactor

/-- The load-time replacement of `WindowCfg`, field by field (rule R61). -/
def loadWindowCfg (raw lo hi dflt : WindowCfg) : WindowCfg where
  windowStrategy := raw.windowStrategy
  openDetectionTime := inBounds lo.openDetectionTime hi.openDetectionTime dflt.openDetectionTime raw.openDetectionTime
  closeDetectionTime := inBounds lo.closeDetectionTime hi.closeDetectionTime dflt.closeDetectionTime raw.closeDetectionTime
  openDetectionDiff := inBounds lo.openDetectionDiff hi.openDetectionDiff dflt.openDetectionDiff raw.openDetectionDiff
  closeDetectionDiff := inBounds lo.closeDetectionDiff hi.closeDetectionDiff dflt.closeDetectionDiff raw.closeDetectionDiff
  openTimeout := inBounds lo.openTimeout hi.openTimeout dflt.openTimeout raw.openTimeout
  rbLen := inBounds lo.rbLen hi.rbLen dflt.rbLen raw.rbLen
  hwDebounce := inBounds lo.hwDebounce hi.hwDebounce dflt.hwDebounce raw.hwDebounce

/-- The load-time replacement of `BatteryCfg`, field by field (rule R61). -/
def loadBatteryCfg (raw lo hi dflt : BatteryCfg) : BatteryCfg where
  batLowThld := inBounds lo.batLowThld hi.batLowThld dflt.batLowThld raw.batLowThld
  batWarningThld := inBounds lo.batWarningThld hi.batWarningThld dflt.batWarningThld raw.batWarningThld
  battErrReversible := raw.battErrReversible

/-- The load-time replacement of `MotorCfg`, field by field (rule R61). -/
def loadMotorCfg (raw lo hi dflt : MotorCfg) : MotorCfg where
  ignoreImpulses := inBounds lo.ignoreImpulses hi.ignoreImpulses dflt.ignoreImpulses raw.ignoreImpulses
  minImpulses := inBounds lo.minImpulses hi.minImpulses dflt.minImpulses raw.minImpulses
  tol := inBounds lo.tol hi.tol dflt.tol raw.tol
  settleTicks := inBounds lo.settleTicks hi.settleTicks dflt.settleTicks raw.settleTicks
  calLarge := inBoundsSigned lo.calLarge hi.calLarge dflt.calLarge raw.calLarge
  eyeLow := inBounds lo.eyeLow hi.eyeLow dflt.eyeLow raw.eyeLow
  eyeHigh := inBounds lo.eyeHigh hi.eyeHigh dflt.eyeHigh raw.eyeHigh
  targetPeriod := inBounds lo.targetPeriod hi.targetPeriod dflt.targetPeriod raw.targetPeriod
  pwmDiv := inBounds lo.pwmDiv hi.pwmDiv dflt.pwmDiv raw.pwmDiv
  pwmMaxStep := inBounds lo.pwmMaxStep hi.pwmMaxStep dflt.pwmMaxStep raw.pwmMaxStep
  pwmMin := inBounds lo.pwmMin hi.pwmMin dflt.pwmMin raw.pwmMin
  pwmMax := inBounds lo.pwmMax hi.pwmMax dflt.pwmMax raw.pwmMax
  pwmStart := inBounds lo.pwmStart hi.pwmStart dflt.pwmStart raw.pwmStart
  wdtRun := inBounds lo.wdtRun hi.wdtRun dflt.wdtRun raw.wdtRun
  wdtCal := inBounds lo.wdtCal hi.wdtCal dflt.wdtCal raw.wdtCal
  nvMaxPulsesInit := inBounds lo.nvMaxPulsesInit hi.nvMaxPulsesInit dflt.nvMaxPulsesInit raw.nvMaxPulsesInit

/-- The load-time replacement of `RadioCfg`, field by field (rule R61). -/
def loadRadioCfg (raw lo hi dflt : RadioCfg) : RadioCfg where
  rfmAddr := inBounds lo.rfmAddr hi.rfmAddr dflt.rfmAddr raw.rfmAddr
  rfmBaud := inBounds lo.rfmBaud hi.rfmBaud dflt.rfmBaud raw.rfmBaud
  bufCap := inBounds lo.bufCap hi.bufCap dflt.bufCap raw.bufCap
  pmRx := inBounds lo.pmRx hi.pmRx dflt.pmRx raw.pmRx
  pmTx := inBounds lo.pmTx hi.pmTx dflt.pmTx raw.pmTx
  pmIdle := inBounds lo.pmIdle hi.pmIdle dflt.pmIdle raw.pmIdle
  fifoClear := inBounds lo.fifoClear hi.fifoClear dflt.fifoClear raw.fifoClear
  fifoArm := inBounds lo.fifoArm hi.fifoArm dflt.fifoArm raw.fifoArm
  rfmQuiet := if lo.rfmQuiet ≤ raw.rfmQuiet ∧ raw.rfmQuiet ≤ hi.rfmQuiet then raw.rfmQuiet else dflt.rfmQuiet

/-- The load-time replacement of `InitCfg`, field by field (rule R61). -/
def loadInitCfg (raw lo hi dflt : InitCfg) : InitCfg where
  cfgBits := inBounds lo.cfgBits hi.cfgBits dflt.cfgBits raw.cfgBits
  freq := inBounds lo.freq hi.freq dflt.freq raw.freq
  drate := inBounds lo.drate hi.drate dflt.drate raw.drate
  p16 := inBounds lo.p16 hi.p16 dflt.p16 raw.p16
  vdi := inBounds lo.vdi hi.vdi dflt.vdi raw.vdi
  bwTier0 := inBounds lo.bwTier0 hi.bwTier0 dflt.bwTier0 raw.bwTier0
  bwTier1 := inBounds lo.bwTier1 hi.bwTier1 dflt.bwTier1 raw.bwTier1
  bwTier2 := inBounds lo.bwTier2 hi.bwTier2 dflt.bwTier2 raw.bwTier2
  lna := inBounds lo.lna hi.lna dflt.lna raw.lna
  rssi := inBounds lo.rssi hi.rssi dflt.rssi raw.rssi
  dfilt := inBounds lo.dfilt hi.dfilt dflt.dfilt raw.dfilt
  fifoBits := inBounds lo.fifoBits hi.fifoBits dflt.fifoBits raw.fifoBits
  afcBits := inBounds lo.afcBits hi.afcBits dflt.afcBits raw.afcBits
  mp := inBounds lo.mp hi.mp dflt.mp raw.mp
  modTier0 := inBounds lo.modTier0 hi.modTier0 dflt.modTier0 raw.modTier0
  modTier1 := inBounds lo.modTier1 hi.modTier1 dflt.modTier1 raw.modTier1
  modTier2 := inBounds lo.modTier2 hi.modTier2 dflt.modTier2 raw.modTier2
  pwr := inBounds lo.pwr hi.pwr dflt.pwr raw.pwr
  pll := inBounds lo.pll hi.pll dflt.pll raw.pll
  lbdEnable := raw.lbdEnable
  lbd := inBounds lo.lbd hi.lbd dflt.lbd raw.lbd

/-- The load-time replacement of `PacketCfg`, field by field (rule R61). -/
def loadPacketCfg (raw lo hi dflt : PacketCfg) : PacketCfg where
  broadcast := inBounds lo.broadcast hi.broadcast dflt.broadcast raw.broadcast
  command := inBounds lo.command hi.command dflt.command raw.command
  reply := inBounds lo.reply hi.reply dflt.reply raw.reply
  special := inBounds lo.special hi.special dflt.special raw.special
  deviceType := inBounds lo.deviceType hi.deviceType dflt.deviceType raw.deviceType

/-- The configuration after validation on load (rule R61). A truth value or a strategy has no bounds to leave. -/
def validatedCfg (l : CfgLoad) : Cfg where
  setpoint := loadSetpointCfg l.raw.setpoint l.lo.setpoint l.hi.setpoint l.dflt.setpoint
  pid := loadPidCfg l.raw.pid l.lo.pid l.hi.pid l.dflt.pid
  boost := loadBoostCfg l.raw.boost l.lo.boost l.hi.boost l.dflt.boost
  window := loadWindowCfg l.raw.window l.lo.window l.hi.window l.dflt.window
  battery := loadBatteryCfg l.raw.battery l.lo.battery l.hi.battery l.dflt.battery
  motor := loadMotorCfg l.raw.motor l.lo.motor l.hi.motor l.dflt.motor
  radio := loadRadioCfg l.raw.radio l.lo.radio l.hi.radio l.dflt.radio
  init := loadInitCfg l.raw.init l.lo.init l.hi.init l.dflt.init
  packet := loadPacketCfg l.raw.packet l.lo.packet l.hi.packet l.dflt.packet

/-- The configuration the block holds after the host gives a new one: the validated values (rules R60, R61), with the
window strategy as it was, which is fixed for the life of the block (rule R250). -/
def loadedCfg (old : Cfg) (l : CfgLoad) : Cfg :=
  { validatedCfg l with window := { (validatedCfg l).window with windowStrategy := old.window.windowStrategy } }

end Sys2Proof.Machine
end

