-- ==== Sys2Proof/Machine/Operands.lean ====
section
/-! DEFINITION. The primitive functions of rule R12, the conversions of rule R11, the enumeration codes, and the forms
in which an operation reads its operands (rule R132) and its numbers. -/

namespace Sys2Proof.Machine

/-- `clamp(v, lo, hi)` (rule R12). -/
def clamp (v lo hi : Int) : Int := min (max v lo) hi

/-- `sgn(v)` (rule R12). -/
def sgn (v : Int) : Sign := if v < 0 then .neg else if v = 0 then .zero else .pos

/-- The number of a sign: -1, 0 or +1. -/
def signValue : Sign → Int
  | .neg => -1
  | .zero => 0
  | .pos => 1

/-- `tdiv(a, b)`: division truncating toward zero (rule R12). -/
def tdiv (a b : Int) : Int := Int.tdiv a b

/-- `tmod(a, b)`, the remainder of `tdiv` (rule R12). -/
def tmod (a b : Int) : Int := Int.tmod a b

/-- `asr(v, k) = floor(v / 2^k)` (rule R12). -/
def asr (v : Int) (k : Nat) : Int := Int.fdiv v (2 ^ k)

/-- `satu8(v)` (rule R12). -/
def satu8 (v : Int) : Int := clamp v 0 255

/-- `wrap16(v)` as the i16 value it is (rule R12). -/
def wrap16 (v : Int) : I16 := BitVec.ofInt 16 v

/-- `sext_16` of an 8-bit operand (rules R12, R132). -/
def sext16 (b : I8) : I16 := b.signExtend 16

/-- `zext_16` of an 8-bit operand (rules R12, R132). -/
def zext16 (b : U8) : U16 := b.setWidth 16

/-- An integer assigned to a u8 field: itself where it fits; where it does not, no value is stated (rule R11). -/
def toU8 (v : Int) : U8 := if 0 ≤ v ∧ v ≤ 255 then BitVec.ofInt 8 v else Config.unfitU8 v

/-- An integer assigned to a u16 field (rule R11). -/
def toU16 (v : Int) : U16 := if 0 ≤ v ∧ v ≤ 65535 then BitVec.ofInt 16 v else Config.unfitU16 v

/-- An integer assigned to an i8 field (rule R11). -/
def toI8 (v : Int) : I8 := if -128 ≤ v ∧ v ≤ 127 then BitVec.ofInt 8 v else Config.unfitU8 v

/-- An integer assigned to an i16 field (rule R11). -/
def toI16 (v : Int) : I16 := if -32768 ≤ v ∧ v ≤ 32767 then BitVec.ofInt 16 v else Config.unfitI16 v

/-- An integer assigned to an i32 field (rule R11). -/
def toI32 (v : Int) : I32 :=
  if -2147483648 ≤ v ∧ v ≤ 2147483647 then BitVec.ofInt 32 v else Config.unfitI32 v

/-- A u8 counter one higher, saturating at 255 (rules R40, R201, R203, R301, R303). -/
def satInc (x : U8) : U8 := if x = 255 then 255 else x + 1

/-- `dsign(d)` (rule R42). -/
def dsign : Direction → Int
  | .stop => 0
  | .opening => 1
  | .closing => -1

/-- The number of a direction (rule R42). -/
def directionCode : Direction → Nat
  | .stop => 0
  | .opening => 1
  | .closing => 2

/-- The number of a mode (rule R51). -/
def modeCode : Mode → Nat
  | .stop => 0
  | .startTx => 1
  | .tx => 2
  | .txDone => 3
  | .rx => 4
  | .rxOwf => 5

/-- The number of a calibration step (rule R43). -/
def calStepCode : CalStep → Int
  | .uncalibrated => -2
  | .error => -1
  | .calibrated => 0
  | .pendingStart => 1
  | .toOpen => 2
  | .toClose => 3

/-- The number of a stop reason (rule R41). -/
def stopReasonCode : StopReason → Nat
  | .none => 0
  | .target => 1
  | .timeout => 2

/-- The number of a fault (rule R503). -/
def faultCodeNumber : FaultCode → Nat
  | .unwritten => 1
  | .bufRange => 2
  | .bufOwner => 3
  | .txSize => 4

/-- `clampT(v) = clamp(v, TEMP_MIN-1, TEMP_MAX+1)` (rule R32). -/
def clampT (c : SetpointCfg) (v : Int) : U8 := toU8 (clamp v ((c.tempMin.toNat : Int) - 1) ((c.tempMax.toNat : Int) + 1))

/-- The preset of schedule type `t`, 0 to 3 (rule R34). -/
def preset (c : SetpointCfg) (t : U8) : U8 :=
  if t = 0 then c.tPreset0 else if t = 1 then c.tPreset1 else if t = 2 then c.tPreset2 else c.tPreset3

/-- The schedule type is one of the four presets; every other value is INVALID (rule R34). -/
def validType (t : U8) : Bool := decide (t.toNat < 4)

/-- The mode gives the frame buffer to the edge interrupt (rules R51, R110). -/
def ownsBuffer : Mode → Bool
  | .tx | .rx | .rxOwf => true
  | .stop | .startTx | .txDone => false

/-- The mode is a receiving one, in which the readable limit is `framePos` (rule R458). -/
def receiving : Mode → Bool
  | .rx | .rxOwf => true
  | .stop | .startTx | .tx | .txDone => false

/-- The four drive states of rule R306. -/
inductive DriveState where
  | idle
  | driving
  | coasting
  | stopPending
deriving DecidableEq, Repr

/-- The drive state, a function of `direction`, `wdtArmed` and `lastDir` (rule R306). -/
def driveState (m : MotState) : DriveState :=
  if m.direction ≠ .stop then .driving
  else if m.wdtArmed then .coasting
  else if m.lastDir ≠ .stop then .stopPending
  else .idle

/-- The packet type of a flags byte, `flags[7:6]` (rule R141). -/
def flagsType (b : U8) : BitVec 2 := b.extractLsb' 6 2

/-- The device type of a flags byte, `flags[4:0]` (rule R141). -/
def flagsDeviceType (b : U8) : BitVec 5 := b.extractLsb' 0 5

/-- The broadcast subtype that carries a time-sync payload (rule R141). -/
def timeSyncFlags : U8 := 0xC9

/-- The twelve single bits of the RFM12 status word with their names, bit 15 first (rule R137). No operation reads one. -/
def statusBits (w : U16) : List (String × Bool) :=
  [("RGIT/FFIT", w.getLsbD 15), ("POR", w.getLsbD 14), ("RGUR/FFOV", w.getLsbD 13), ("WKUP", w.getLsbD 12),
    ("EXT", w.getLsbD 11), ("LBD", w.getLsbD 10), ("FFEM", w.getLsbD 9), ("ATS/RSSI", w.getLsbD 8),
    ("DQD", w.getLsbD 7), ("CRL", w.getLsbD 6), ("ATGL", w.getLsbD 5), ("OFFS sign", w.getLsbD 4)]

/-- The frequency offset of the RFM12 status word, bits 3 to 0 (rule R137). -/
def statusOffset (w : U16) : BitVec 4 := w.extractLsb' 0 4

end Sys2Proof.Machine
end

