-- ==== Sys2Proof/Machine/Ops.lean ====
section
/-! DEFINITION. The named operations over the storage spaces (rules R13, R100 to R103), the bus transfer (rule R400),
faults and refusals (rules R503, R504), interrupt entry and return (rules R507, R508), and the gate every operation
passes before its own pseudocode (rules R134, R135, R500, R502, R504, R525). -/

namespace Sys2Proof.Machine

/-! ## The frame buffer -/

/-- The byte written at an address since reset, `none` for an unwritten one (rule R102). -/
def Memory.read : Memory → Nat → Option U8
  | [], _ => none
  | (k, v) :: m, a => if a = k then some v else Memory.read m a

/-- Write one byte, keeping the addresses strictly rising (rule R102). -/
def Memory.write : Memory → Nat → U8 → Memory
  | [], a, b => [(a, b)]
  | (k, v) :: m, a, b =>
    if a < k then (a, b) :: (k, v) :: m
    else if a = k then (a, b) :: m
    else (k, v) :: Memory.write m a b

/-- Every address of the memory is above `lo`, and the addresses rise strictly. -/
def Memory.risingFrom : Nat → Memory → Bool
  | _, [] => true
  | lo, (k, _) :: m => decide (lo ≤ k) && Memory.risingFrom (k + 1) m

/-- The one canonical form of the frame buffer: addresses strictly rising. An unlisted address has no value, so no
entry can repeat it. -/
def Memory.wf (m : Memory) : Bool := Memory.risingFrom 0 m

/-- The lowest unwritten index below `n`, counted up from `k` for `fuel` indices (rule R452). -/
def Memory.firstUnwritten (m : Memory) : Nat → Nat → Option Nat
  | _, 0 => none
  | k, fuel + 1 => if (m.read k).isNone then some k else Memory.firstUnwritten m (k + 1) fuel

/-- The byte at an index of the frame buffer, as any reader sees it (rule R102). -/
def State.bufByte (s : State) (a : Nat) : Option U8 := s.frm.frameBuffer.read a

/-! ## What an operation's own pseudocode answers -/

/-- The end of an operation's pseudocode: it completes, raises a fault (rule R503) or refuses (rule R504). -/
inductive Effect where
  | done (s : State)
  | fault (code : FaultCode) (info : U8)
  | refuse (r : RefuseReason)
deriving DecidableEq, Repr

/-- Apply a state change at the end of a pseudocode that completes. -/
def Effect.map (f : State → State) : Effect → Effect
  | .done s => .done (f s)
  | .fault c i => .fault c i
  | .refuse r => .refuse r

/-- `raise Fault(code, info)`: only the fault mark changes (rule R503). -/
def recordFault (s : State) (code : FaultCode) (info : U8) : State :=
  { s with sys := { s.sys with fault := some (code, info) } }

/-- `refuse(reason)`: only the refusal mark changes, and the reason is reported (rule R504). -/
def markRefused (s : State) (r : RefuseReason) : State :=
  { s with sys := { s.sys with refused := true }, env := { s.env with report := some r } }

/-- The state after an operation begun in `s`: a fault or a refusal discards its other effects (rules R503, R504). -/
def settle (s : State) : Effect → State
  | .done s' => s'
  | .fault c i => recordFault s c i
  | .refuse r => markRefused s r

/-- `BufWrite(i, v)` (rule R13). -/
def bufWrite (s : State) (i v : U8) : Effect :=
  if s.cfg.radio.bufCap.toNat ≤ i.toNat then .fault .bufRange i
  else .done { s with frm := { s.frm with frameBuffer := s.frm.frameBuffer.write i.toNat v } }

/-! ## The bus -/

/-- The bits of a word in the order of the bus, bit 15 first (rules R103, R400). -/
def bitsMsbFirst (w : U16) : List Bool := (List.range 16).map fun k => w.getLsbD (15 - k)

/-- The pin changes of one clock: set the data bit, raise the clock, lower it (rule R400). -/
def spiClock (b : Bool) : List (SpiPins → SpiPins) :=
  [fun p => { p with sdi := b }, fun p => { p with sck := true }, fun p => { p with sck := false }]

/-- The pin changes of one word in order: assert select, sixteen clocks, the narrow deselect pulse (rule R400). On a
bus already selected the first change changes nothing. -/
def spiPinChanges (w : U16) : List (SpiPins → SpiPins) :=
  (fun p => { p with nSel := false }) :: (bitsMsbFirst w).flatMap spiClock
    ++ [fun p => { p with nSel := true }, fun p => { p with nSel := false }]

/-- The pin states of a list of changes, oldest first, the start not included (rule R400). -/
def pinTrace : SpiPins → List (SpiPins → SpiPins) → List SpiPins
  | _, [] => []
  | p, f :: fs => f p :: pinTrace (f p) fs

/-- The pins after a list of changes. -/
def pinsAfter (p : SpiPins) (fs : List (SpiPins → SpiPins)) : SpiPins := fs.foldl (fun q f => f q) p

/-- The draws of `SDO` at the coming clocks: the response so far, the levels left, the free draws used. -/
structure SdoDraw where
  response : U16
  levels : List Bool
  draws : Nat
deriving DecidableEq, Repr

/-- Sample `SDO` at `k` clocks, most significant bit first (rules R137, R400); past the delivered levels a sample is a
free value (rule R13). -/
def sampleSdo : Nat → SdoDraw → SdoDraw
  | 0, d => d
  | k + 1, d =>
    match d.levels with
    | b :: rest => sampleSdo k { d with response := d.response.shiftConcat b, levels := rest }
    | [] => sampleSdo k { d with response := d.response.shiftConcat (Config.freeSdo d.draws), draws := d.draws + 1 }

/-- The response to one word: sixteen samples (rule R400). -/
def sdoResponse (e : Env) : SdoDraw := sampleSdo 16 { response := 0, levels := e.ports.sdo, draws := e.draws }

/-- The 16 bits the chip answers to the next word sent in this state (rules R137, R400). -/
def State.nextResponse (s : State) : U16 := (sdoResponse s.env).response

/-- `SPI(w)`: one word over the bus (rule R400). Its result is `s.nextResponse`. -/
def spiSend (s : State) (w : U16) : State :=
  { s with
    spi := pinsAfter s.spi (spiPinChanges w)
    hist := s.hist ++ [.spiWord w s.nextResponse]
    env := { s.env with ports := { s.env.ports with sdo := (sdoResponse s.env).levels }
                        draws := (sdoResponse s.env).draws } }

/-- Send words in order, dropping the responses (rules R403, R454, R455, R457). -/
def spiSendAll (s : State) (ws : List U16) : State := ws.foldl spiSend s

/-- Put a result on the port `res` (rule R71). -/
def State.withRes (s : State) (v : U16) : State := { s with res := v }

/-! ## Interrupt entry and return -/

/-- Interrupt entry (rule R507). -/
def isrEntry (s : State) : State :=
  { s with sys := { s.sys with gie := false, inIsr := true, sleeping := false } }

/-- Return from an interrupt (rule R508). -/
def isrReturn (s : State) : State := { s with sys := { s.sys with inIsr := false, gie := true } }

/-- The watchdog event is enabled, the state being live (rule R502). -/
def wdtEnabled (s : State) : Bool := s.sys.gie && s.mot.wdtArmed && decide (s.mot.wdtDeadline ≤ s.sys.now)

/-! ## The gate -/

/-- The live condition (rule R500). -/
def State.live (s : State) : Bool := !s.sys.halted && s.sys.fault.isNone && !s.sys.refused

/-- The first check that fails decides the reason (rules R504, R526). -/
def firstFailure : List (Bool × RefuseReason) → Option RefuseReason
  | [] => none
  | (bad, r) :: rest => if bad then some r else firstFailure rest

/-- The gate of every operation but `SYS_RESET`: in a state that is not live nothing happens (rules R500, R503, R602);
the configuration is checked first, then the listed checks in order (rule R504). -/
def passGate (s : State) (checks : List (Bool × RefuseReason)) (own : Effect) : State :=
  if s.live then
    match cfgProblem s.cfg with
    | some r => markRefused s r
    | none =>
      match firstFailure checks with
      | some r => markRefused s r
      | none => settle s own
  else s

/-- A task-context operation may not be issued by an interrupt source or inside a handler (rule R135). -/
def notTaskContext (s : State) : Bool := s.env.issuer == .source || s.sys.inIsr

/-- A host command leaves the sleep (rules R516, R523). -/
def wake (s : State) : State := { s with sys := { s.sys with sleeping := false } }

/-- An external task command (rules R135, R500, R523, R525). -/
def hostCommand (s : State) (own : State → Effect) : State :=
  passGate s [(notTaskContext s, .context), (!s.sys.booted, .notBooted)] (own (wake s))

/-- A dispatched task: it runs only while its flag is pending and the loop is awake, and clears the flag first
(rules R505, R516). -/
def dispatchTask (s : State) (t : TaskFlag) (own : State → Effect) : State :=
  passGate s
    [(notTaskContext s, .context), (!s.sys.booted, .notBooted), (!s.pending t || s.sys.sleeping, .notPending)]
    (own (s.clearTask t))

/-- An internal operation: only another operation issues it (rules R133, R134). -/
def internalOp (s : State) (own : State → State) : State :=
  passGate s [(s.env.issuer != .operation, .internal), (!s.sys.booted, .notBooted)] (.done (own s))

/-- An interrupt event: issued as a command it is refused (rule R135); delivered while not enabled it is not taken and
changes nothing (rule R502); else entry, handler, return (rules R507, R508). -/
def interruptEvent (s : State) (condition : Bool) (handler : State → Effect) : State :=
  if s.env.issuer == .source then
    if s.live && s.sys.gie && condition then
      passGate s [(!s.sys.booted, .notBooted)] ((handler (isrEntry s)).map isrReturn)
    else s
  else passGate s [(true, .context)] (.done s)

/-- A word with no operation: refused with the decoder's reason (rules R132, R134). -/
def rejectWord (s : State) : DecodeError → State
  | .undefOp => passGate s [(true, .undefOp)] (.done s)
  | .reservedBits => passGate s [(true, .reservedBits)] (.done s)

end Sys2Proof.Machine
end

