-- ==== Sys2Proof/Machine/Controller.lean ====
section
/-! DEFINITION. The controller unit: the steps of rules R201 to R211 as functions, and the meanings of the CTL
operations but `CTL_TICK`, which stands in Machine/Tick.lean because it uses every unit. -/

namespace Sys2Proof.Machine

/-! ## The control law, rule R201 -/

/-- Step A: the effective setpoint (rules R35, R221). `T_FROST` is applied as it is, as the rule's pseudocode has it; rule
R61 does not bound it, so an applied setpoint may leave the range that rule R253 derives. DESIGN CHOICE: log entry 29. -/
def effSetpoint (cfg : Cfg) (c : CtlState) : U8 :=
  if c.windowOpenState.toNat > 0 then cfg.setpoint.tFrost else c.wantedTemperature

/-- The error, clamped to ±1200 (rule R222). -/
def pidError (eff : U8) (t : I16) : Int := clamp ((eff.toNat : Int) * 50 - t.toInt) (-1200) 1200

/-- Step D's test: the effective setpoint is OFF (rules R32, R221). -/
def isOff (cfg : Cfg) (eff : U8) : Bool := decide ((eff.toNat : Int) = (cfg.setpoint.tempMin.toNat : Int) - 1)

/-- Step D's test: the effective setpoint is ON (rules R32, R221). -/
def isOn (cfg : Cfg) (eff : U8) : Bool := decide ((eff.toNat : Int) = (cfg.setpoint.tempMax.toNat : Int) + 1)

/-- The valve value of a boost in the stored direction (rules R201 C and G, R229). -/
def boostOutput (cfg : Cfg) (c : CtlState) : U8 := if c.boostDir = .pos then cfg.pid.valveMax else cfg.pid.valveMin

/-- Step E's test: a new setpoint starts a boost (rule R229). -/
def boostStarts (cfg : Cfg) (eff prev : U8) (e : Int) : Bool :=
  cfg.boost.boostEnable && prev != 0xFF
    && decide (((eff.toNat : Int) - prev.toNat).natAbs > cfg.boost.boostSpDiff.toNat)
    && decide (e.natAbs > cfg.boost.boostErrThld.toNat)

/-- The boost time in ticks for an error of magnitude `a` (rule R229). -/
def boostDuration (cfg : Cfg) (a : Nat) : U16 := toU16 (min (asr ((a : Int) * cfg.boost.boostFactor.toNat) 8 * 60) 65535)

/-- Step E on a setpoint change (rules R223, R229). -/
def setpointChanged (cfg : Cfg) (c : CtlState) (eff : U8) (e : Int) : CtlState :=
  let c1 :=
    { c with
      integratorCredit := cfg.pid.iMaxCredit
      creditExpiration := cfg.pid.iCreditExpiration
      blockCount := cfg.pid.defineIntegratorBlock
      snapSum := c.sumError
      snapAbs := toU16 e.natAbs
      boostSecs := 0 }
  if boostStarts cfg eff c.lastAppliedTemperature e then
    { c1 with boostSecs := boostDuration cfg e.natAbs, boostDir := sgn e }
  else c1

/-- The integrator's working values within one evaluation, as integers (rule R11). -/
structure Integ where
  sum : Int
  credit : Int
  expiration : Int
deriving DecidableEq, Repr

/-- Step F: the error's sign just flipped (rule R225). -/
def signFlipped (c : CtlState) (e : Int) : Bool := decide (sgn e ≠ .zero) && decide (sgn e ≠ c.lastErrorSign)

/-- Step F: credit and its lifetime before the accumulation (rule R225). -/
def creditStep (cfg : Cfg) (c : CtlState) (e : Int) : Integ :=
  if signFlipped c e then
    { sum := c.sumError.toInt, credit := cfg.pid.iMaxCredit.toNat, expiration := cfg.pid.iCreditExpiration.toNat }
  else if c.creditExpiration.toNat > 0 then
    { sum := c.sumError.toInt
      credit := if c.creditExpiration.toNat = 1 then 0 else c.integratorCredit.toInt
      expiration := (c.creditExpiration.toNat : Int) - 1 }
  else { sum := c.sumError.toInt, credit := c.integratorCredit.toInt, expiration := 0 }

/-- Step F: the valve has headroom in the error's direction (rule R225). -/
def headroom (cfg : Cfg) (old : U8) (e : Int) : Bool :=
  (decide (e > 0) && decide (old.toNat < cfg.pid.valveMax.toNat))
    || (decide (e < 0) && decide (old.toNat > cfg.pid.valveMin.toNat))

/-- Step F: the cost of one accumulation (rule R225). -/
def creditCost (cfg : Cfg) (a : Nat) : Int := max 1 (asr a cfg.pid.creditShift.toNat)

/-- Step F: the accumulation and its cost (rule R225). -/
def accumulate (cfg : Cfg) (c : CtlState) (e : Int) (g : Integ) : Integ :=
  if headroom cfg c.valveHistory0 e && (signFlipped c e || decide (g.credit > 0)) then
    { g with
      sum := g.sum + 8 * e
      credit :=
        if !signFlipped c e && decide (e.natAbs ≥ c.lastAbsError.toNat) then max 0 (g.credit - creditCost cfg e.natAbs)
        else g.credit }
  else g

/-- Step F: the rollback check, where the credit has just been exhausted (rule R225). -/
def rollback (cfg : Cfg) (c : CtlState) (e : Int) (g : Integ) : Integ :=
  if c.integratorCredit.toInt > 0 ∧ g.credit = 0 ∧ 4 * e.natAbs > 3 * c.snapAbs.toNat
      ∧ e.natAbs > cfg.pid.rollbackTol.toNat then
    { g with sum := c.snapSum.toInt }
  else g

/-- The integrator bound `L` (rules R36, R226). -/
def sumBound (cfg : Cfg) : Int := tdiv 3276800 (max cfg.pid.iFactor.toNat 1 : Nat)

/-- The sum after the clamp of rule R226. -/
def clampedSum (cfg : Cfg) (sum : Int) : I32 := toI32 (clamp sum (-sumBound cfg) (sumBound cfg))

/-- Step F to the clamp: the integrator of one evaluation, frozen or not (rules R224, R225, R226). -/
def integratorStep (cfg : Cfg) (c : CtlState) (e : Int) : CtlState :=
  if c.blockCount.toNat > 0 then
    { c with
      blockCount := c.blockCount - 1
      lastAbsError := toU16 e.natAbs
      sumError := clampedSum cfg c.sumError.toInt }
  else
    let g := rollback cfg c e (accumulate cfg c e (creditStep cfg c e))
    { c with
      integratorCredit := toI8 g.credit
      creditExpiration := toU8 g.expiration
      lastErrorSign := if sgn e = .zero then c.lastErrorSign else sgn e
      lastAbsError := toU16 e.natAbs
      sumError := clampedSum cfg g.sum }

/-- Step G: the output sum `q` (rule R227). -/
def outputSum (cfg : Cfg) (sum : I32) (e : Int) : Int :=
  (cfg.pid.pFactor.toNat : Int) * e + (cfg.pid.p3Factor.toNat : Int) * tdiv (e * e * e) 256
    + (cfg.pid.iFactor.toNat : Int) * sum.toInt + (cfg.pid.valveCenter.toNat : Int) * 256

/-- Step G: rounding of the ×256 value `qc` with hysteresis (rule R228). -/
def roundOutput (cfg : Cfg) (old : U8) (qc : Int) : Int :=
  if qc ≥ (old.toNat : Int) * 256 then max (old.toNat : Int) (asr (qc + 128 - cfg.pid.valveHysteresis.toNat) 8)
  else min (old.toNat : Int) (asr (qc + 128 + cfg.pid.valveHysteresis.toNat) 8)

/-- Step G: the PID output, clamped to the valve range (rules R227, R228). -/
def pidOutput (cfg : Cfg) (old : U8) (sum : I32) (e : Int) : U8 :=
  toU8 (clamp (roundOutput cfg old (clamp (outputSum cfg sum e) 0 ((cfg.pid.valveMax.toNat : Int) * 256)))
    cfg.pid.valveMin.toNat cfg.pid.valveMax.toNat)

/-- Steps E to H: one evaluation of the law with a measured setpoint (rules R222 to R229). -/
def evaluate (cfg : Cfg) (c : CtlState) (eff : U8) (changed : Bool) (t : I16) : CtlState :=
  let e := pidError eff t
  let c1 := integratorStep cfg (if changed then setpointChanged cfg c eff e else c) e
  { c1 with
    valveHistory0 :=
      if c1.boostSecs.toNat > 0 then boostOutput cfg c1 else pidOutput cfg c.valveHistory0 c1.sumError e
    lastAppliedTemperature := eff }

/-- Step D: the OFF and ON sentinels (rule R221). -/
def sentinelOutput (cfg : Cfg) (c : CtlState) (eff : U8) : CtlState :=
  { c with valveHistory0 := if isOff cfg eff then 0 else 100, boostSecs := 0, lastAppliedTemperature := eff }

/-- The gate of step C and the evaluation behind it (rule R220). -/
def gatedEvaluation (cfg : Cfg) (c : CtlState) (eff : U8) (changed : Bool) (t : I16) : CtlState :=
  if changed || decide (c.pidCounter.toNat ≥ cfg.pid.pidInterval.toNat) then
    if isOff cfg eff || isOn cfg eff then sentinelOutput cfg { c with pidCounter := 0 } eff
    else evaluate cfg { c with pidCounter := 0 } eff changed t
  else c

/-- Step C's test: the boost goes on for another tick (rule R229). -/
def boostContinues (cfg : Cfg) (eff : U8) (t : I16) : Bool :=
  decide (¬ ((pidError eff t).natAbs : Int) < (cfg.boost.boostErrThld.toNat : Int) - cfg.boost.boostHyst.toNat)

/-- Steps A to H (rule R201). -/
def controlLaw (cfg : Cfg) (p : Ports) (c : CtlState) : CtlState :=
  let eff := effSetpoint cfg c
  let changed := decide (eff ≠ c.lastAppliedTemperature)
  let c1 := { c with pidCounter := satInc c.pidCounter }
  if !p.tempValid then c1
  else if decide (c1.boostSecs.toNat > 0) && !changed then
    if boostContinues cfg eff p.tempAvg then
      { c1 with boostSecs := c1.boostSecs - 1, valveHistory0 := boostOutput cfg c1 }
    else gatedEvaluation cfg { c1 with boostSecs := 0 } eff changed p.tempAvg
  else gatedEvaluation cfg c1 eff changed p.tempAvg

/-- `CTL_UPDATE` as another operation issues it (rule R201). -/
def ctlUpdate (s : State) : State := { s with ctl := controlLaw s.cfg s.env.ports s.ctl }

/-! ## Window, battery, schedule -/

/-- The largest sample of a window, `none` of an empty one (rule R202). -/
def maxSample : List I16 → Option Int
  | [] => none
  | x :: xs => match maxSample xs with
    | none => some x.toInt
    | some m => some (max x.toInt m)

/-- The smallest sample of a window, `none` of an empty one (rule R202). -/
def minSample : List I16 → Option Int
  | [] => none
  | x :: xs => match minSample xs with
    | none => some x.toInt
    | some m => some (min x.toInt m)

/-- The last `n` samples, or all of a shorter history (rule R202). -/
def trailing (n : Nat) (h : List I16) : List I16 := h.drop (h.length - n)

/-- A drop of more than the open threshold below the trailing maximum (rule R202). -/
def dropSeen (cfg : WindowCfg) (h : List I16) (x : I16) : Bool :=
  match maxSample (trailing cfg.openDetectionTime.toNat h) with
  | none => false
  | some m => decide (m - x.toInt > cfg.openDetectionDiff.toNat)

/-- A rise of more than the close threshold above the trailing minimum (rule R202). -/
def recoverySeen (cfg : WindowCfg) (h : List I16) (x : I16) : Bool :=
  match minSample (trailing cfg.closeDetectionTime.toNat h) with
  | none => false
  | some m => decide (x.toInt - m > cfg.closeDetectionDiff.toNat)

/-- `windowOpenState` after a sample (rule R202). -/
def windowAfterSample (cfg : WindowCfg) (c : CtlState) (x : I16) : U8 :=
  if c.windowOpenState.toNat = 0 then
    if dropSeen cfg c.winHist x then (if cfg.openTimeout.toNat = 0 then 1 else cfg.openTimeout) else c.windowOpenState
  else if recoverySeen cfg c.winHist x then 0
  else c.windowOpenState - 1

/-- The ring buffer after a sample: the oldest are dropped over `WINDOW_RB_LEN` (rule R202). -/
def winHistAfterSample (cfg : WindowCfg) (h : List I16) (x : I16) : List I16 := trailing cfg.rbLen.toNat (h ++ [x])

/-- The thermal-trend detector (rules R202, R250). -/
def windowSample (cfg : WindowCfg) (p : Ports) (c : CtlState) : CtlState :=
  if cfg.windowStrategy ≠ .thermal ∨ p.tempValid = false then c
  else
    { c with
      windowOpenState := windowAfterSample cfg c p.tempAvg
      winHist := winHistAfterSample cfg c.winHist p.tempAvg }

/-- The reed debounce (rule R203). -/
def reedDebounce (cfg : WindowCfg) (reed : Bool) (c : CtlState) : CtlState :=
  if reed = c.reedTrusted then { c with reedCount := 0 }
  else if (satInc c.reedCount).toNat ≥ cfg.hwDebounce.toNat then { c with reedTrusted := reed, reedCount := 0 }
  else { c with reedCount := satInc c.reedCount }

/-- `windowOpenState` follows the trusted reed state (rule R203). -/
def windowFollowsReed (c : CtlState) : CtlState := { c with windowOpenState := if c.reedTrusted then 1 else 0 }

/-- The reed-switch detector (rules R203, R250). -/
def windowHw (cfg : WindowCfg) (p : Ports) (c : CtlState) : CtlState :=
  if cfg.windowStrategy ≠ .hw then c else windowFollowsReed (reedDebounce cfg p.reed c)

/-- `CTL_WINDOW_HW` as another operation issues it (rule R203). -/
def ctlWindowHw (s : State) : State := { s with ctl := windowHw s.cfg.window s.env.ports s.ctl }

/-- Battery classification (rule R204). -/
def batteryClass (cfg : BatteryCfg) (p : Ports) (c : CtlState) : CtlState :=
  if !p.batValid then c
  else if p.batMv.toInt < cfg.batLowThld.toNat then c.setErr (errBattLow ||| errBattWarn)
  else if p.batMv.toInt < cfg.batWarningThld.toNat then
    if cfg.battErrReversible then (c.setErr errBattWarn).clearErr errBattLow else c.setErr errBattWarn
  else if cfg.battErrReversible then c.clearErr (errBattLow ||| errBattWarn)
  else c

/-- `CTL_BATTERY` as another operation issues it (rule R204). -/
def ctlBattery (s : State) : State := { s with ctl := batteryClass s.cfg.battery s.env.ports s.ctl }

/-- Store a valid schedule type and load its preset (rules R205, R211). -/
def loadPreset (cfg : SetpointCfg) (t : U8) (c : CtlState) : CtlState :=
  { c with scheduleTemperatureType := t, wantedTemperature := clampT cfg (preset cfg t).toNat }

/-- Following the schedule in automatic mode (rule R205). -/
def schedFollow (cfg : SetpointCfg) (t : U8) (c : CtlState) : CtlState :=
  if c.autoMode && validType t && t != c.scheduleTemperatureType then loadPreset cfg t c else c

/-- `CTL_SCHED_FOLLOW` as another operation issues it (rule R205). -/
def ctlSchedFollow (s : State) : State :=
  { s with ctl := schedFollow s.cfg.setpoint s.env.ports.schedType s.ctl }

/-- `PullSchedule` (rule R211). -/
def pullSchedule (cfg : SetpointCfg) (t : U8) (c : CtlState) : CtlState :=
  if validType t then loadPreset cfg t c else { c with scheduleTemperatureType := 0xFF }

/-! ## Mode and setpoint -/

/-- `CTL_CHANGE_MODE 0`, TOGGLE (rule R207). -/
def modeToggle (cfg : SetpointCfg) (t : U8) (c : CtlState) : CtlState :=
  let c1 :=
    { c with
      savedAuto := c.autoMode, savedType := c.scheduleTemperatureType, savedWanted := c.wantedTemperature
      autoMode := !c.autoMode }
  if c1.autoMode then pullSchedule cfg t c1 else c1

/-- `CTL_CHANGE_MODE 1`, REVOKE: the saved triple as it stands (rule R207, decision D27). Rule R32's clamp was applied when
the saved setpoint was first written; it is not applied again under bounds that moved since. DEDUCED: log entry 30. -/
def modeRevoke (c : CtlState) : CtlState :=
  { c with autoMode := c.savedAuto, scheduleTemperatureType := c.savedType, wantedTemperature := c.savedWanted }

/-- `CTL_CHANGE_MODE k`; `none` for an undefined operand (rule R207). -/
def changeMode (cfg : SetpointCfg) (t : U8) (k : U8) (c : CtlState) : Option CtlState :=
  if k = 0 then some (modeToggle cfg t c)
  else if k = 1 then some (modeRevoke c)
  else if k = 2 then some { c with autoMode := false }
  else if k = 3 then some (pullSchedule cfg t { c with autoMode := true })
  else none

/-- A setpoint from outside: clamped, the window state cleared, the next evaluation forced (rules R208, R209). -/
def setWanted (cfg : Cfg) (v : Int) (c : CtlState) : CtlState :=
  { c with
    wantedTemperature := clampT cfg.setpoint v
    windowOpenState := 0
    pidCounter := cfg.pid.pidInterval }

/-! ## Meanings -/

/-- `CTL_UPDATE` (rule R201). -/
def execCtlUpdate (s : State) : Host.Outcome State Fault Refusal := .next (internalOp s ctlUpdate)

/-- `CTL_WINDOW_SAMPLE` (rule R202). -/
def execCtlWindowSample (s : State) : Host.Outcome State Fault Refusal :=
  .next (hostCommand s fun s => .done { s with ctl := windowSample s.cfg.window s.env.ports s.ctl })

/-- `CTL_WINDOW_HW` (rule R203). -/
def execCtlWindowHw (s : State) : Host.Outcome State Fault Refusal := .next (internalOp s ctlWindowHw)

/-- `CTL_BATTERY` (rule R204). -/
def execCtlBattery (s : State) : Host.Outcome State Fault Refusal := .next (internalOp s ctlBattery)

/-- `CTL_SCHED_FOLLOW` (rule R205). -/
def execCtlSchedFollow (s : State) : Host.Outcome State Fault Refusal := .next (internalOp s ctlSchedFollow)

/-- `CTL_CHANGE_MODE k` (rule R207). -/
def execCtlChangeMode (k : U8) (s : State) : Host.Outcome State Fault Refusal :=
  .next (hostCommand s fun s =>
    match changeMode s.cfg.setpoint s.env.ports.schedType k s.ctl with
    | some c => .done { s with ctl := c }
    | none => .refuse .badArg)

/-- `CTL_TEMP_CHANGE_INC d` (rule R208). -/
def execCtlTempChangeInc (d : I8) (s : State) : Host.Outcome State Fault Refusal :=
  .next (hostCommand s fun s =>
    .done { s with ctl := setWanted s.cfg ((s.ctl.wantedTemperature.toNat : Int) + (sext16 d).toInt) s.ctl })

/-- `CTL_SET_WANTED v` (rule R209). -/
def execCtlSetWanted (v : U8) (s : State) : Host.Outcome State Fault Refusal :=
  .next (hostCommand s fun s => .done { s with ctl := setWanted s.cfg (zext16 v).toNat s.ctl })

/-- `CTL_ERR_ACK m` (rule R210). -/
def execCtlErrAck (m : U8) (s : State) : Host.Outcome State Fault Refusal :=
  .next (hostCommand s fun s => if m &&& ~~~errAckable ≠ 0 then .refuse .badArg else .done (s.clearErr m))

end Sys2Proof.Machine
end

