-- ==== Sys2Proof/Machine/Radio.lean ====
section
/-! DEFINITION. The SPI register engine (rules R400 to R409), the meanings of its operations and of the RFM12 command
words it sends (rules R136 to R138). -/

namespace Sys2Proof.Machine

/-- One word over the bus with its response on `res` (rules R71, R400). -/
def spiTransfer (s : State) (w : U16) : State := (spiSend s w).withRes s.nextResponse

/-- `RFM_WRITE b`: the bus word that writes a byte to the transmit register (rule R401). -/
def txWriteWord (b : U8) : U16 := 0xB800 ||| b.setWidth 16

/-- `RFM_READ_FIFO`: the bus word that reads a byte from the receive FIFO (rule R402). -/
def fifoReadWord : U16 := 0xB000

/-- The received byte of a FIFO read, `r[7:0]` (rule R402). -/
def fifoByte (r : U16) : U8 := r.extractLsb' 0 8

/-- `baudTier(b)` (rule R404). -/
def baudTier (b : U32) : Nat := if b.toNat < 20000 then 0 else if b.toNat < 100000 then 1 else 2

/-- `BW_TIER[t]` (rule R404). -/
def bwTier (c : InitCfg) (t : Nat) : U16 := if t = 0 then c.bwTier0 else if t = 1 then c.bwTier1 else c.bwTier2

/-- `MOD_TIER[t]` (rule R404). -/
def modTier (c : InitCfg) (t : Nat) : U16 := if t = 0 then c.modTier0 else if t = 1 then c.modTier1 else c.modTier2

/-- The words W1 to W10 of `RFM_INIT`, and W11 where enabled, in order (rule R403). -/
def initWords (cfg : Cfg) : List U16 :=
  let c := cfg.init
  let t := baudTier cfg.radio.rfmBaud
  [ 0x0000,
    0x8000 ||| c.cfgBits,
    0xA000 ||| c.freq,
    0xC600 ||| c.drate,
    0x9000 ||| c.p16 <<< 10 ||| c.vdi <<< 8 ||| bwTier c t <<< 5 ||| c.lna <<< 3 ||| c.rssi,
    0xC228 ||| (c.dfilt &&& 0xD7),
    0xCA00 ||| c.fifoBits,
    0xC400 ||| c.afcBits,
    0x9800 ||| c.mp <<< 8 ||| modTier c t <<< 4 ||| c.pwr,
    0xCC00 ||| (c.pll &&& 0x7F) ]
    ++ (if c.lbdEnable then [0xC000 ||| (c.lbd &&& 0xEF)] else [])

/-- `RFM_INIT` (rule R403). -/
def rfmInit (s : State) : State := spiSendAll s (initWords s.cfg)

/-! ## Meanings -/

/-- `SPI_TRANSFER16 w` (rule R400). -/
def execSpiTransfer16 (w : U16) (s : State) : Host.Outcome State Fault Refusal :=
  .next (hostCommand s fun s => .done (spiTransfer s w))

/-- `RFM_INIT` (rule R403). -/
def execRfmInit (s : State) : Host.Outcome State Fault Refusal :=
  .next (hostCommand s fun s => .done (rfmInit s))

/-! The RFM12 command words. A command word is issued as `SPI_TRANSFER16` of its bits (rules R136, R144); what it does
inside the transceiver is outside the block (rules R138, R519). -/

/-- `RFM12.STATUS_READ` (rules R136, R144). -/
def execRfm12StatusRead (ignored : BitVec 15) (s : State) : Host.Outcome State Fault Refusal :=
  .next (hostCommand s fun s => .done (spiTransfer s (rfm12WordOf (.rfm12StatusRead ignored))))

/-- `RFM12.CONFIG` (rule R136). -/
def execRfm12Config (el ef : BitVec 1) (b : BitVec 2) (x : BitVec 4) (s : State) :
    Host.Outcome State Fault Refusal :=
  .next (hostCommand s fun s => .done (spiTransfer s (rfm12WordOf (.rfm12Config el ef b x))))

/-- `RFM12.POWER_MGMT` (rule R136). -/
def execRfm12PowerMgmt (er ebb et es ex eb ew dc : BitVec 1) (s : State) : Host.Outcome State Fault Refusal :=
  .next (hostCommand s fun s => .done (spiTransfer s (rfm12WordOf (.rfm12PowerMgmt er ebb et es ex eb ew dc))))

/-- `RFM12.FREQUENCY` (rule R136). -/
def execRfm12Frequency (f : BitVec 12) (s : State) : Host.Outcome State Fault Refusal :=
  .next (hostCommand s fun s => .done (spiTransfer s (rfm12WordOf (.rfm12Frequency f))))

/-- `RFM12.DATA_RATE` (rule R136). -/
def execRfm12DataRate (cs : BitVec 1) (r : BitVec 7) (s : State) : Host.Outcome State Fault Refusal :=
  .next (hostCommand s fun s => .done (spiTransfer s (rfm12WordOf (.rfm12DataRate cs r))))

/-- `RFM12.RX_CONTROL` (rule R136). -/
def execRfm12RxControl (p16 : BitVec 1) (d : BitVec 2) (bw : BitVec 3) (g : BitVec 2) (r : BitVec 3) (s : State) :
    Host.Outcome State Fault Refusal :=
  .next (hostCommand s fun s => .done (spiTransfer s (rfm12WordOf (.rfm12RxControl p16 d bw g r))))

/-- `RFM12.DATA_FILTER` (rule R136). -/
def execRfm12DataFilter (al ml sf : BitVec 1) (f : BitVec 3) (s : State) : Host.Outcome State Fault Refusal :=
  .next (hostCommand s fun s => .done (spiTransfer s (rfm12WordOf (.rfm12DataFilter al ml sf f))))

/-- `RFM12.FIFO_RESET` (rule R136). -/
def execRfm12FifoReset (f : BitVec 4) (sp al ff dr : BitVec 1) (s : State) : Host.Outcome State Fault Refusal :=
  .next (hostCommand s fun s => .done (spiTransfer s (rfm12WordOf (.rfm12FifoReset f sp al ff dr))))

/-- `RFM12.SYNC_PATTERN` (rule R136). -/
def execRfm12SyncPattern (b : BitVec 8) (s : State) : Host.Outcome State Fault Refusal :=
  .next (hostCommand s fun s => .done (spiTransfer s (rfm12WordOf (.rfm12SyncPattern b))))

/-- `RFM12.FIFO_READ` (rules R136, R402). -/
def execRfm12FifoRead (s : State) : Host.Outcome State Fault Refusal :=
  .next (hostCommand s fun s => .done (spiTransfer s (rfm12WordOf .rfm12FifoRead)))

/-- `RFM12.AFC` (rule R136). -/
def execRfm12Afc (a rl : BitVec 2) (st fi oe en : BitVec 1) (s : State) : Host.Outcome State Fault Refusal :=
  .next (hostCommand s fun s => .done (spiTransfer s (rfm12WordOf (.rfm12Afc a rl st fi oe en))))

/-- `RFM12.TX_CONFIG` (rule R136). -/
def execRfm12TxConfig (mp : BitVec 1) (m : BitVec 4) (p : BitVec 3) (s : State) : Host.Outcome State Fault Refusal :=
  .next (hostCommand s fun s => .done (spiTransfer s (rfm12WordOf (.rfm12TxConfig mp m p))))

/-- `RFM12.PLL` (rule R136). -/
def execRfm12Pll (ob : BitVec 2) (opts : BitVec 5) (s : State) : Host.Outcome State Fault Refusal :=
  .next (hostCommand s fun s => .done (spiTransfer s (rfm12WordOf (.rfm12Pll ob opts))))

/-- `RFM12.TX_WRITE` (rules R136, R401). -/
def execRfm12TxWrite (t : BitVec 8) (s : State) : Host.Outcome State Fault Refusal :=
  .next (hostCommand s fun s => .done (spiTransfer s (rfm12WordOf (.rfm12TxWrite t))))

/-- `RFM12.WAKEUP_TIMER` (rule R136). -/
def execRfm12WakeupTimer (r : BitVec 5) (m : BitVec 8) (s : State) : Host.Outcome State Fault Refusal :=
  .next (hostCommand s fun s => .done (spiTransfer s (rfm12WordOf (.rfm12WakeupTimer r m))))

/-- `RFM12.LOW_DUTY_CYCLE` (rule R136). -/
def execRfm12LowDutyCycle (d : BitVec 7) (en : BitVec 1) (s : State) : Host.Outcome State Fault Refusal :=
  .next (hostCommand s fun s => .done (spiTransfer s (rfm12WordOf (.rfm12LowDutyCycle d en))))

/-- `RFM12.LBD_CLOCK_DIV` (rule R136). -/
def execRfm12LbdClockDiv (d : BitVec 3) (v : BitVec 4) (s : State) : Host.Outcome State Fault Refusal :=
  .next (hostCommand s fun s => .done (spiTransfer s (rfm12WordOf (.rfm12LbdClockDiv d v))))

end Sys2Proof.Machine
end

