-- ==== Sys2Proof/Machine/Frame.lean ====
section
/-! DEFINITION. The frame machine: the meanings of the FRM operations and of the edge interrupt (rules R450 to R462). -/

namespace Sys2Proof.Machine

/-! ## Steps -/

/-- Change the mode and the edge-interrupt enable together (rules R460, R461). -/
def setMode (s : State) (m : Mode) (irq : Bool) : State :=
  { s with frm := { s.frm with mode := m }, sys := { s.sys with rfmIrqEn := irq } }

/-- `framePos <- v`. -/
def setFramePos (s : State) (v : U8) : State := { s with frm := { s.frm with framePos := v } }

/-- The radio is disabled (rule R7 `RFM_ADDR`, decision D53). -/
def radioOff (s : State) : Bool := s.cfg.radio.rfmAddr == 0

/-- `FRM_STOP` (rule R450). The word is whatever the parameter holds, here and below: the rules send the parameters of rule
R406 without a check. DESIGN CHOICE where such a word is in no row of rule R136: log entry 28. -/
def frmStop (s : State) : State :=
  setMode (if radioOff s then s else spiSend s s.cfg.radio.pmIdle) .stop false

/-- `FRM_BUF_WRITE i, b` (rules R110, R451). -/
def frmBufWrite (s : State) (i b : U8) : Effect :=
  if ownsBuffer s.frm.mode then .fault .bufOwner i else bufWrite s i b

/-- `FRM_START_TX n` (rule R452). -/
def frmStartTx (s : State) (n : U8) : Effect :=
  if s.frm.mode ≠ .stop then .refuse .mode
  else if radioOff s then .done s
  else if n.toNat < 1 ∨ s.cfg.radio.bufCap.toNat < n.toNat then .fault .txSize n
  else
    match s.frm.frameBuffer.firstUnwritten 0 n.toNat with
    | some k => .fault .unwritten (toU8 k)
    | none => .done { s with frm := { s.frm with frameSize := n, framePos := 0, mode := .startTx } }

/-- `FRM_TX_SLOT` as another operation issues it (rule R453). -/
def frmTxSlot (s : State) : State :=
  if s.frm.mode = .startTx ∧ radioOff s = false ∧ s.env.ports.second.val = s.cfg.radio.rfmAddr.toNat then
    setMode (spiSend s s.cfg.radio.pmTx) .tx true
  else s

/-- `StartRx` (rule R455). -/
def startRx (s : State) : State :=
  setMode (setFramePos (spiSendAll s [s.cfg.radio.pmRx, s.cfg.radio.fifoClear, s.cfg.radio.fifoArm]) 0) .rx true

/-- `FRM_TX_DONE k` (rule R454). -/
def frmTxDone (s : State) (k : U8) : Effect :=
  if s.frm.mode ≠ .txDone then .refuse .mode
  else if k.toNat > 1 then .refuse .badArg
  else if k = 1 then .done (startRx { spiSend s s.cfg.radio.pmIdle with sys := { s.sys with rfmIrqEn := false } })
  else .done (setMode (spiSend s s.cfg.radio.pmIdle) .stop false)

/-- `FRM_START_RX` (rule R455). -/
def frmStartRx (s : State) : Effect :=
  if s.frm.mode ≠ .stop then .refuse .mode else if radioOff s then .done s else .done (startRx s)

/-- `FRM_RX_RESET` (rule R457). -/
def frmRxReset (s : State) : Effect :=
  if receiving s.frm.mode then
    .done (setMode (setFramePos (spiSendAll s [s.cfg.radio.fifoClear, s.cfg.radio.fifoArm]) 0) .rx true)
  else .refuse .mode

/-- The readable limit of the buffer (rule R458). -/
def readLimit (s : State) : Nat :=
  if receiving s.frm.mode then s.frm.framePos.toNat else s.cfg.radio.bufCap.toNat

/-- `FRM_BUF_READ i` (rule R458). -/
def frmBufRead (s : State) (i : U8) : Effect :=
  if s.cfg.radio.bufCap.toNat ≤ i.toNat then .fault .bufRange i
  else if readLimit s ≤ i.toNat then .fault .bufOwner i
  else
    match s.bufByte i.toNat with
    | some b => .done (s.withRes (zext16 b))
    | none => .fault .unwritten i

/-- The result of `FRM_TASK_ACK`, `{mode, framePos}` (rule R459). -/
def frameStatus (f : FrmState) : U16 := BitVec.ofNat 16 (modeCode f.mode * 256) ||| zext16 f.framePos

/-- `framePos <- framePos + 1`. -/
def nextFramePos (s : State) : State := setFramePos s (toU8 ((s.frm.framePos.toNat : Int) + 1))

/-- The edge source's enable bit (rules R456, R461). -/
def setRfmIrq (s : State) (b : Bool) : State := { s with sys := { s.sys with rfmIrqEn := b } }

/-- An edge in `tx`, the source disabled: send the next byte; the last one ends the transmission (rule R456). -/
def txEdge (s : State) : Effect :=
  match s.bufByte s.frm.framePos.toNat with
  | none => .fault .unwritten s.frm.framePos
  | some b =>
    let s1 := nextFramePos (spiSend s (txWriteWord b))
    if s1.frm.frameSize.toNat ≤ s1.frm.framePos.toNat then .done ((setMode s1 .txDone false).post .rfm)
    else .done (setRfmIrq s1 true)

/-- An edge in `rx`, the source disabled: store the received byte; a full buffer overflows (rule R456). -/
def rxEdge (s : State) : Effect :=
  match bufWrite (spiSend s fifoReadWord) s.frm.framePos (fifoByte s.nextResponse) with
  | .done s1 =>
    let s2 := nextFramePos s1
    .done (setRfmIrq
      (State.post
        (if s2.cfg.radio.bufCap.toNat ≤ s2.frm.framePos.toNat then { s2 with frm := { s2.frm with mode := .rxOwf } }
         else s2)
        .rfm)
      true)
  | .fault c i => .fault c i
  | .refuse r => .refuse r

/-- An edge in `rx_owf`, the source disabled: read a byte and drop it (rule R456). -/
def owfEdge (s : State) : State := setRfmIrq ((spiSend s fifoReadWord).post .rfm) true

/-- The handler of `EV_RFM_EDGE` (rule R456). -/
def rfmEdge (s : State) : Effect :=
  match s.frm.mode with
  | .tx => txEdge (setRfmIrq s false)
  | .rx => rxEdge (setRfmIrq s false)
  | .rxOwf => .done (owfEdge (setRfmIrq s false))
  | .stop | .startTx | .txDone => .done (setRfmIrq s false)

/-! ## Meanings -/

/-- `FRM_TASK_ACK` (rules R459, R505). -/
def execFrmTaskAck (s : State) : Host.Outcome State Fault Refusal :=
  .next (dispatchTask s .rfm fun s => .done (s.withRes (frameStatus s.frm)))

/-- `FRM_STOP` (rule R450). -/
def execFrmStop (s : State) : Host.Outcome State Fault Refusal :=
  .next (hostCommand s fun s => .done (frmStop s))

/-- `FRM_BUF_WRITE i, b` (rule R451). -/
def execFrmBufWrite (i b : U8) (s : State) : Host.Outcome State Fault Refusal :=
  .next (hostCommand s fun s => frmBufWrite s i b)

/-- `FRM_START_TX n` (rule R452). -/
def execFrmStartTx (n : U8) (s : State) : Host.Outcome State Fault Refusal :=
  .next (hostCommand s fun s => frmStartTx s n)

/-- `FRM_TX_SLOT` (rule R453). -/
def execFrmTxSlot (s : State) : Host.Outcome State Fault Refusal := .next (internalOp s frmTxSlot)

/-- `FRM_TX_DONE k` (rule R454). -/
def execFrmTxDone (k : U8) (s : State) : Host.Outcome State Fault Refusal :=
  .next (hostCommand s fun s => frmTxDone s k)

/-- `FRM_START_RX` (rule R455). -/
def execFrmStartRx (s : State) : Host.Outcome State Fault Refusal := .next (hostCommand s frmStartRx)

/-- `FRM_RX_RESET` (rule R457). -/
def execFrmRxReset (s : State) : Host.Outcome State Fault Refusal := .next (hostCommand s frmRxReset)

/-- `FRM_BUF_READ i` (rule R458). -/
def execFrmBufRead (i : U8) (s : State) : Host.Outcome State Fault Refusal :=
  .next (hostCommand s fun s => frmBufRead s i)

/-- `EV_RFM_EDGE` (rules R456, R502). -/
def execEvRfmEdge (s : State) : Host.Outcome State Fault Refusal :=
  .next (interruptEvent s (s.sys.rfmIrqEn && s.env.ports.rfmReady) rfmEdge)

end Sys2Proof.Machine
end

