-- ==== Sys2Proof/Machine/Motor.lean ====
section
/-! DEFINITION. The motor unit: the steps of rules R300 to R314 as functions, and the meanings of the MOT operations and
of the two motor interrupt events. -/

namespace Sys2Proof.Machine

/-! ## Steps -/

/-- `wdtReload()` (rule R311). -/
def wdtReload (s : State) : Nat :=
  match s.mot.calibrationStep with
  | .pendingStart | .toOpen | .toClose => s.cfg.motor.wdtCal.toNat
  | .uncalibrated | .error | .calibrated => s.cfg.motor.wdtRun.toNat

/-- `StartDrive(d, t)` (rule R307). -/
def startDrive (s : State) (d : Direction) (t : Int) : State :=
  { s with
    mot :=
      { s.mot with
        direction := d
        lastDir := d
        targetPulses := toI16 t
        ignoreCount := s.cfg.motor.ignoreImpulses
        pwmDuty := s.cfg.motor.pwmStart
        stopReason := .none
        wdtArmed := true
        wdtDeadline := s.sys.now + 8 * wdtReload s
        lastPulseTime := s.sys.now } }

/-- `CutDrive(r)` (rule R308). -/
def cutDrive (s : State) (r : StopReason) : State :=
  { s with mot := { s.mot with direction := .stop, stopReason := r, overshootPulses := 0 } }

/-- `targetPulses <- t`. -/
def setTarget (s : State) (t : Int) : State := { s with mot := { s.mot with targetPulses := toI16 t } }

/-- `scalePulses(p, m)` (rule R310). -/
def scalePulses (p m : Nat) : Int := if p = 0 then 0 else if p ≥ 100 then m else tdiv ((p : Int) * m) 100

/-- The target of `MOT_GOTO p` (rules R300, R310). -/
def gotoTarget (s : State) (p : U8) : Int := scalePulses (min p.toNat 100) s.mot.maxPulses.toNat

/-- The drive was cut and its bookkeeping is not done: coasting or stop pending (rules R300, R306). -/
def stopUnfinished (m : MotState) : Bool := m.direction == .stop && (m.wdtArmed || m.lastDir != .stop)

/-- `MOT_GOTO p` (rule R300). -/
def motGoto (s : State) (p : U8) : State :=
  if s.mot.calibrationStep ≠ .calibrated then s
  else if stopUnfinished s.mot then s
  else
    let t := gotoTarget s p
    let diff := t - s.mot.positionPulses.toInt
    if diff.natAbs ≤ s.cfg.motor.tol.toNat then
      if s.mot.direction ≠ .stop then cutDrive (setTarget s t) .target else s
    else
      let nd := if diff > 0 then Direction.opening else Direction.closing
      if nd ≠ s.mot.direction then startDrive s nd t else setTarget s t

/-- `MOT_UPDATE_CAL 0`: the valve is unmounted (rule R301). -/
def motUnmount (s : State) : State :=
  { (s.clearTask .motorStop).clearErr errMotor with
    mot :=
      { s.mot with
        direction := .stop
        lastDir := .stop
        wdtArmed := false
        stopReason := .none
        positionPulses := 0
        targetPulses := 0
        maxPulses := 0
        calibrationStep := .uncalibrated
        settleCount := 0
        overshootPulses := 0
        ignoreCount := 0 } }

/-- The settle delay of an uncalibrated motor (rule R301). -/
def motSettle (s : State) : State :=
  if (satInc s.mot.settleCount).toNat ≥ s.cfg.motor.settleTicks.toNat then
    { s with mot := { s.mot with calibrationStep := .pendingStart, settleCount := 0 } }
  else { s with mot := { s.mot with settleCount := satInc s.mot.settleCount } }

/-- The start of the calibration drive to the open endstop (rule R301). -/
def motStartCalibration (s : State) : State :=
  startDrive { s with mot := { s.mot with positionPulses := 0, calibrationStep := .toOpen } } .opening
    s.cfg.motor.calLarge.toInt

/-- `MOT_UPDATE_CAL r` (rule R301). -/
def motUpdateCal (s : State) (r : U8) : State :=
  if r = 0 then motUnmount s
  else
    match s.mot.calibrationStep with
    | .uncalibrated => motSettle s
    | .pendingStart => motStartCalibration s
    | .error | .calibrated | .toOpen | .toClose => s

/-- `MOT_GET_POS_PERCENT`, the value of the port `posPercent` (rules R71, R302). -/
def posPercent (m : MotState) : U8 :=
  if m.calibrationStep ≠ .calibrated ∨ m.maxPulses = 0 then 255
  else toU8 (clamp (tdiv (max m.positionPulses.toInt 0 * 100) m.maxPulses.toNat) 0 100)

/-- The PWM correction for a pulse period (rule R304). -/
def pwmDelta (cfg : MotorCfg) (q : U16) : Int :=
  clamp (tdiv ((q.toNat : Int) - cfg.targetPeriod.toNat) cfg.pwmDiv.toNat) (-(cfg.pwmMaxStep.toNat : Int))
    cfg.pwmMaxStep.toNat

/-- `MOT_TIMER_PULSE q` as another operation issues it (rule R304). -/
def motTimerPulse (s : State) (q : U16) : State :=
  { s with
    mot :=
      { s.mot with
        pwmDuty :=
          toU8 (clamp ((s.mot.pwmDuty.toNat : Int) + pwmDelta s.cfg.motor q) s.cfg.motor.pwmMin.toNat
            s.cfg.motor.pwmMax.toNat) } }

/-- `Fail` of rule R313: calibration error and motor fault. -/
def motFail (s : State) : State :=
  { s.setErr errMotor with mot := { s.mot with calibrationStep := .error } }

/-- `FinishMove(why, d)` (rule R314). -/
def finishMove (s : State) (why : StopReason) (d : Direction) : State :=
  match why with
  | .target | .none => s
  | .timeout =>
    if (s.mot.positionPulses.toInt - s.mot.targetPulses.toInt).natAbs ≤ s.cfg.motor.tol.toNat then
      if s.mot.targetPulses = 0 ∧ d = .closing then { s with mot := { s.mot with positionPulses := 0 } } else s
    else
      match d with
      | .closing => motFail s
      | .opening => s.setErr errMotor
      | .stop => s

/-- Step 2 of `MOT_TIMER_STOP`: the drive to the open endstop ended (rule R313). -/
def openEndstop (s : State) (why : StopReason) (d : Direction) : State :=
  if why = .timeout ∧ d = .opening then
    if 0 < s.nv.persistedMaxPulses.toNat ∧ s.nv.persistedMaxPulses.toNat ≤ 32767 then
      { s with
        mot :=
          { s.mot with
            maxPulses := s.nv.persistedMaxPulses
            positionPulses := toI16 s.nv.persistedMaxPulses.toNat
            targetPulses := toI16 s.nv.persistedMaxPulses.toNat
            calibrationStep := .calibrated } }
    else
      startDrive { s with mot := { s.mot with positionPulses := 0, calibrationStep := .toClose } } .closing
        (-s.cfg.motor.calLarge.toInt)
  else motFail s

/-- Step 3 of `MOT_TIMER_STOP`: the drive to the close endstop ended (rule R313). -/
def closeEndstop (s : State) (why : StopReason) (d : Direction) : State :=
  if why = .timeout ∧ d = .closing then
    if -s.mot.positionPulses.toInt > s.cfg.motor.minImpulses.toNat then
      { s with
        mot :=
          { s.mot with
            maxPulses := toU16 (-s.mot.positionPulses.toInt)
            positionPulses := 0
            targetPulses := 0
            calibrationStep := .calibrated }
        nv := { persistedMaxPulses := toU16 (-s.mot.positionPulses.toInt) } }
    else motFail s
  else motFail s

/-- `MOT_TIMER_STOP`, its flag already cleared (rule R313). -/
def motTimerStop (s : State) : State :=
  let s1 := { s with mot := { s.mot with lastDir := .stop, stopReason := .none } }
  match s.mot.calibrationStep with
  | .toOpen => openEndstop s1 s.mot.stopReason s.mot.lastDir
  | .toClose => closeEndstop s1 s.mot.stopReason s.mot.lastDir
  | .calibrated => finishMove s1 s.mot.stopReason s.mot.lastDir
  | .uncalibrated | .error | .pendingStart => s1

/-! ## Interrupt events -/

/-- The eye filter accepts the edge: the level changed, after a phase long enough (rule R303). -/
def edgeAccepted (s : State) (level : BitVec 1) : Bool :=
  level != s.mot.eyeLevel
    && decide (¬ (s.sys.now : Int) - s.mot.eyeLastTime
        < 2 * (if level = 1 then s.cfg.motor.eyeLow else s.cfg.motor.eyeHigh).toNat)

/-- The filter takes the edge over (rule R303). -/
def edgeLatched (s : State) (level : BitVec 1) : State :=
  { s with mot := { s.mot with eyeLevel := level, eyeLastTime := s.sys.now } }

/-- One pulse moves the position by the direction of the move (rules R42, R303). -/
def pulseCounted (s : State) : State :=
  { s with
    mot := { s.mot with positionPulses := wrap16 (s.mot.positionPulses.toInt + dsign s.mot.lastDir) } }

/-- A counted pulse while coasting (rule R303). -/
def coastPulse (s : State) : State :=
  { s with
    mot :=
      { s.mot with
        overshootPulses := satInc s.mot.overshootPulses
        wdtDeadline := s.sys.now + wdtReload s } }

/-- A counted pulse while driving: ignored by the regulation, or regulating (rules R303, R304). -/
def drivePulse (s : State) : State :=
  let period := (s.sys.now : Int) - s.mot.lastPulseTime
  if s.mot.ignoreCount.toNat > 0 then
    { s with
      mot :=
        { s.mot with
          lastPulseTime := s.sys.now
          ignoreCount := s.mot.ignoreCount - 1
          wdtDeadline := s.sys.now + 8 * wdtReload s } }
  else
    motTimerPulse
      { s with mot := { s.mot with lastPulseTime := s.sys.now, wdtDeadline := s.sys.now + wdtReload s } }
      (toU16 (min period 65535))

/-- The drive has reached its target, biased by the last overshoot (rule R303). -/
def targetReached (m : MotState) : Bool :=
  (m.direction == .opening
      && decide (m.positionPulses.toInt ≥ m.targetPulses.toInt - m.overshootPulses.toNat))
    || (m.direction == .closing
      && decide (m.positionPulses.toInt ≤ m.targetPulses.toInt + m.overshootPulses.toNat))

/-- The handler of `EV_EYE_EDGE L` (rule R303). -/
def eyeEdge (s : State) (level : BitVec 1) : State :=
  if edgeAccepted s level then
    let s1 := edgeLatched s level
    match driveState s1.mot with
    | .idle | .stopPending => s1
    | .coasting => coastPulse (pulseCounted s1)
    | .driving =>
      let s2 := drivePulse (pulseCounted s1)
      if targetReached s2.mot then cutDrive s2 .target else s2
  else s

/-- The handler of `EV_MOTOR_WDT` (rule R305). -/
def motorWdt (s : State) : State :=
  State.post
    { s with
      mot :=
        { s.mot with
          wdtArmed := false
          direction := .stop
          stopReason := if s.mot.direction ≠ .stop then .timeout else s.mot.stopReason } }
    .motorStop

/-! ## Meanings -/

/-- `MOT_GOTO p` (rule R300). -/
def execMotGoto (p : U8) (s : State) : Host.Outcome State Fault Refusal :=
  .next (hostCommand s fun s => .done (motGoto s p))

/-- `MOT_UPDATE_CAL r` (rule R301). -/
def execMotUpdateCal (r : U8) (s : State) : Host.Outcome State Fault Refusal :=
  .next (hostCommand s fun s => .done (motUpdateCal s r))

/-- `MOT_GET_POS_PERCENT` (rules R71, R302). -/
def execMotGetPosPercent (s : State) : Host.Outcome State Fault Refusal :=
  .next (hostCommand s fun s => .done (s.withRes (zext16 (posPercent s.mot))))

/-- `MOT_TIMER_PULSE q` (rule R304). -/
def execMotTimerPulse (q : U16) (s : State) : Host.Outcome State Fault Refusal :=
  .next (internalOp s fun s => motTimerPulse s q)

/-- `MOT_TIMER_STOP` (rules R313, R505). -/
def execMotTimerStop (s : State) : Host.Outcome State Fault Refusal :=
  .next (dispatchTask s .motorStop fun s => .done (motTimerStop s))

/-- `EV_EYE_EDGE L` (rules R303, R502). -/
def execEvEyeEdge (level : BitVec 1) (s : State) : Host.Outcome State Fault Refusal :=
  .next (interruptEvent s true fun s => .done (eyeEdge s level))

/-- `EV_MOTOR_WDT` (rules R305, R502). -/
def execEvMotorWdt (s : State) : Host.Outcome State Fault Refusal :=
  .next (interruptEvent s (wdtEnabled s) fun s => .done (motorWdt s))

end Sys2Proof.Machine
end

