-- ==== Sys2Proof/Machine/Sys.lean ====
section
/-! DEFINITION. Reset, boot, the critical section, sleep, and the two time interrupts (rules R511 to R516, R600 to R602). -/

namespace Sys2Proof.Machine

/-- The controller after reset (rules R31, R603). -/
def resetCtl (c : SetpointCfg) : CtlState where
  wantedTemperature := clampT c c.wantedInit.toNat
  lastAppliedTemperature := 0xFF
  scheduleTemperatureType := 0xFF
  autoMode := c.autoInit
  windowOpenState := 0
  sumError := 0
  integratorCredit := 0
  creditExpiration := 0
  blockCount := 0
  snapSum := 0
  snapAbs := 0
  lastErrorSign := .zero
  lastAbsError := 0
  valveHistory0 := 0
  errorFlags := 0
  pidCounter := 0
  boostSecs := 0
  boostDir := .zero
  savedAuto := false
  savedType := 0xFF
  savedWanted := clampT c c.wantedInit.toNat
  winHist := []
  reedTrusted := false
  reedCount := 0

/-- The motor after reset: the eye level is the input at reset (rules R41, R600, R603). -/
def resetMot (eye : BitVec 1) : MotState where
  direction := .stop
  lastDir := .stop
  positionPulses := 0
  maxPulses := 0
  targetPulses := 0
  calibrationStep := .uncalibrated
  pwmDuty := 0
  overshootPulses := 0
  stopReason := .none
  ignoreCount := 0
  wdtArmed := false
  wdtDeadline := 0
  eyeLevel := eye
  eyeLastTime := 0
  lastPulseTime := 0
  settleCount := 0

/-- The frame machine after reset: every byte unwritten (rules R50, R603). -/
def resetFrm : FrmState where
  mode := .stop
  frameBuffer := []
  frameSize := 0
  framePos := 0

/-- The SPI pins after reset (rules R53, R603). -/
def resetSpi : SpiPins where
  nSel := true
  sck := false
  sdi := false

/-- The system part after reset (rules R54, R603). -/
def resetSys : SysState where
  taskFlags := 0
  gie := false
  rfmIrqEn := false
  inIsr := false
  sleeping := false
  booted := false
  halted := false
  fault := .none
  refused := false
  now := 0

/-- `SYS_RESET`: the persisted hint and the configuration are kept (rule R600); the result port is no part of the
table of rule R603 and is kept too (log entry 6). -/
def resetState (s : State) : State :=
  { s with
    ctl := resetCtl s.cfg.setpoint
    mot := resetMot s.env.ports.eye
    frm := resetFrm
    spi := resetSpi
    sys := resetSys
    hist := []
    env := { s.env with report := .none } }

/-- Power-up: `SYS_RESET` with the first hint (rules R52, R600). -/
def powerUp (s : State) : State := resetState { s with nv := { persistedMaxPulses := s.cfg.motor.nvMaxPulsesInit } }

/-- `SYS_BOOT` (rules R601, R602). -/
def sysBoot (s : State) : Effect :=
  if s.sys.booted then .refuse .context
  else if s.env.ports.layoutOk then
    let s1 := if s.cfg.radio.rfmAddr = 0 then s else rfmInit s
    .done { s1 with sys := { s1.sys with gie := true, booted := true } }
  else .done { s with sys := { s.sys with halted := true } }

/-- `SYS_SLEEP` (rule R516). -/
def sysSleep (s : State) : Effect :=
  if s.sys.taskFlags ≠ 0 then .refuse .context else .done { s with sys := { s.sys with sleeping := true } }

/-- The handler of `EV_TMR_TICK` (rules R66, R512). -/
def tmrTick (s : State) : State := { s with sys := { s.sys with now := s.sys.now + 1 } }

/-! ## Meanings -/

/-- `SYS_RESET`: enabled in every state and never refused (rules R500, R600). -/
def execSysReset (s : State) : Host.Outcome State Fault Refusal := .next (resetState s)

/-- `SYS_BOOT`: the one other operation enabled before boot (rules R525, R601). -/
def execSysBoot (s : State) : Host.Outcome State Fault Refusal :=
  .next (passGate s [(notTaskContext s, .context)] (sysBoot (wake s)))

/-- `SYS_CLI` (rule R514). -/
def execSysCli (s : State) : Host.Outcome State Fault Refusal :=
  .next (hostCommand s fun s => .done { s with sys := { s.sys with gie := false } })

/-- `SYS_SEI` (rule R515). -/
def execSysSei (s : State) : Host.Outcome State Fault Refusal :=
  .next (hostCommand s fun s => .done { s with sys := { s.sys with gie := true } })

/-- `SYS_SLEEP` (rule R516). -/
def execSysSleep (s : State) : Host.Outcome State Fault Refusal := .next (hostCommand s sysSleep)

/-- `EV_TMR_TICK`: not enabled while the watchdog event is (rules R512, R526). -/
def execEvTmrTick (s : State) : Host.Outcome State Fault Refusal :=
  .next (interruptEvent s (!wdtEnabled s) fun s => .done (tmrTick s))

/-- `EV_RTC_SECOND` (rule R511). -/
def execEvRtcSecond (s : State) : Host.Outcome State Fault Refusal :=
  .next (interruptEvent s true fun s => .done (s.post .tick))

end Sys2Proof.Machine
end

