-- ==== Sys2Proof/Machine/Tick.lean ====
section
/-! DEFINITION. The 1 Hz tick task `CTL_TICK`, which runs steps of all units in one operation (rule R200). -/

namespace Sys2Proof.Machine

/-- Step 1: radio sync lost (rule R200). -/
def tickSync (s : State) : State := if s.env.ports.syncLost then s.setErr errRfmSync else s

/-- Step 3: the reed-switch detector, where it is built in (rule R200). -/
def tickWindow (s : State) : State := if s.cfg.window.windowStrategy = .hw then ctlWindowHw s else s

/-- Step 6: ERR_MOUNT follows the mounting sensor, and the calibration is driven by it (rule R200). -/
def tickMount (s : State) : State :=
  if s.env.ports.mounted then motUpdateCal (s.clearErr errMount) 1 else motUpdateCal (s.setErr errMount) 0

/-- Steps 1 to 7 of `CTL_TICK`, its flag already cleared (rule R200). -/
def ctlTick (s : State) : State :=
  let s1 := tickSync s
  let s2 := ctlSchedFollow s1
  let s3 := tickWindow s2
  let s4 := ctlBattery s3
  let s5 := ctlUpdate s4
  let s6 := motGoto s5 s5.ctl.valveHistory0
  let s7 := tickMount s6
  frmTxSlot s7

/-- `CTL_TICK` (rules R200, R505). -/
def execCtlTick (s : State) : Host.Outcome State Fault Refusal :=
  .next (dispatchTask s .tick fun s => .done (ctlTick s))

end Sys2Proof.Machine
end

