-- ==== Sys2Proof/Machine/Dispatch.lean ====
section
/-! DEFINITION. One arm per operation. -/

namespace Sys2Proof.Machine

/-- The meaning of an operation in a state whose environment part says who issues it and what the input ports read. -/
def exec (i : Instr) (s : State) : Host.Outcome State Fault Refusal :=
  match i with
  | .sysReset => Sys2Proof.Machine.execSysReset s
  | .sysBoot => Sys2Proof.Machine.execSysBoot s
  | .sysCli => Sys2Proof.Machine.execSysCli s
  | .sysSei => Sys2Proof.Machine.execSysSei s
  | .sysSleep => Sys2Proof.Machine.execSysSleep s
  | .ctlTick => Sys2Proof.Machine.execCtlTick s
  | .ctlUpdate => Sys2Proof.Machine.execCtlUpdate s
  | .ctlWindowSample => Sys2Proof.Machine.execCtlWindowSample s
  | .ctlWindowHw => Sys2Proof.Machine.execCtlWindowHw s
  | .ctlBattery => Sys2Proof.Machine.execCtlBattery s
  | .ctlSchedFollow => Sys2Proof.Machine.execCtlSchedFollow s
  | .ctlChangeMode k => Sys2Proof.Machine.execCtlChangeMode k s
  | .ctlTempChangeInc d => Sys2Proof.Machine.execCtlTempChangeInc d s
  | .ctlSetWanted v => Sys2Proof.Machine.execCtlSetWanted v s
  | .ctlErrAck m => Sys2Proof.Machine.execCtlErrAck m s
  | .motGoto p => Sys2Proof.Machine.execMotGoto p s
  | .motUpdateCal r => Sys2Proof.Machine.execMotUpdateCal r s
  | .motGetPosPercent => Sys2Proof.Machine.execMotGetPosPercent s
  | .motTimerPulse q => Sys2Proof.Machine.execMotTimerPulse q s
  | .motTimerStop => Sys2Proof.Machine.execMotTimerStop s
  | .spiTransfer16 w => Sys2Proof.Machine.execSpiTransfer16 w s
  | .rfmInit => Sys2Proof.Machine.execRfmInit s
  | .frmTaskAck => Sys2Proof.Machine.execFrmTaskAck s
  | .frmStop => Sys2Proof.Machine.execFrmStop s
  | .frmBufWrite idx b => Sys2Proof.Machine.execFrmBufWrite idx b s
  | .frmStartTx n => Sys2Proof.Machine.execFrmStartTx n s
  | .frmTxSlot => Sys2Proof.Machine.execFrmTxSlot s
  | .frmTxDone k => Sys2Proof.Machine.execFrmTxDone k s
  | .frmStartRx => Sys2Proof.Machine.execFrmStartRx s
  | .frmRxReset => Sys2Proof.Machine.execFrmRxReset s
  | .frmBufRead idx => Sys2Proof.Machine.execFrmBufRead idx s
  | .evTmrTick => Sys2Proof.Machine.execEvTmrTick s
  | .evRtcSecond => Sys2Proof.Machine.execEvRtcSecond s
  | .evEyeEdge level => Sys2Proof.Machine.execEvEyeEdge level s
  | .evMotorWdt => Sys2Proof.Machine.execEvMotorWdt s
  | .evRfmEdge => Sys2Proof.Machine.execEvRfmEdge s
  | .rfm12StatusRead ignored => Sys2Proof.Machine.execRfm12StatusRead ignored s
  | .rfm12Config el ef b x => Sys2Proof.Machine.execRfm12Config el ef b x s
  | .rfm12PowerMgmt er ebb et es ex eb ew dc => Sys2Proof.Machine.execRfm12PowerMgmt er ebb et es ex eb ew dc s
  | .rfm12Frequency f => Sys2Proof.Machine.execRfm12Frequency f s
  | .rfm12DataRate cs r => Sys2Proof.Machine.execRfm12DataRate cs r s
  | .rfm12RxControl p16 d bw g r => Sys2Proof.Machine.execRfm12RxControl p16 d bw g r s
  | .rfm12DataFilter al ml sf f => Sys2Proof.Machine.execRfm12DataFilter al ml sf f s
  | .rfm12FifoReset f sp al ff dr => Sys2Proof.Machine.execRfm12FifoReset f sp al ff dr s
  | .rfm12SyncPattern b => Sys2Proof.Machine.execRfm12SyncPattern b s
  | .rfm12FifoRead => Sys2Proof.Machine.execRfm12FifoRead s
  | .rfm12Afc a rl st fi oe en => Sys2Proof.Machine.execRfm12Afc a rl st fi oe en s
  | .rfm12TxConfig mp m p => Sys2Proof.Machine.execRfm12TxConfig mp m p s
  | .rfm12Pll ob opts => Sys2Proof.Machine.execRfm12Pll ob opts s
  | .rfm12TxWrite t => Sys2Proof.Machine.execRfm12TxWrite t s
  | .rfm12WakeupTimer r m => Sys2Proof.Machine.execRfm12WakeupTimer r m s
  | .rfm12LowDutyCycle d en => Sys2Proof.Machine.execRfm12LowDutyCycle d en s
  | .rfm12LbdClockDiv d v => Sys2Proof.Machine.execRfm12LbdClockDiv d v s

end Sys2Proof.Machine
end

