-- ==== Sys2Proof/Machine/Fetch.lean ====
section
/-! DEFINITION. Taking the next move of the environment (rules R500, R523): the block has no program counter (rules R3,
R55), so the next operation is the next move of the script. -/

namespace Sys2Proof.Machine

/-- The issuer that a route stands for (rule R135). -/
def issuerOf : Route → Issuer
  | .task => .task
  | .source => .source

/-- The state in which the operation of a move runs: the host's new configuration, if any, is in place (rules R60,
R115), the input ports are the move's (rule R70), and the issuer is known. -/
def latch (d : Delivery) (s : State) : State :=
  { s with
    cfg := match d.load with
      | none => s.cfg
      | some l => loadedCfg s.cfg l
    env := { s.env with ports := d.ports, issuer := issuerOf d.route } }

/-- What the next move brings. -/
inductive Fetched where
  /-- the environment makes no move -/
  | idle
  /-- an operation, and the state in which it runs -/
  | instr (i : Instr) (s : State)
  /-- a CMD24 word with no operation, and the state in which it is refused -/
  | bad (e : DecodeError) (s : State)
deriving Repr

/-- The operation of a word. A 16-bit bus word that is no RFM12 command is still sent, as `SPI_TRANSFER16` of it
(rule R138). -/
def decodeMove (w : OpWord) (s : State) : Fetched :=
  match w with
  | .cmd24 w =>
    match decodeCmd24 w with
    | .ok i => .instr i s
    | .error e => .bad e s
  | .rfm12 w =>
    match decodeRfm12 w with
    | some i => .instr i s
    | none => .instr (.spiTransfer16 w) s

/-- Take the next move. -/
def fetch (s : State) : Fetched :=
  match s.env.script with
  | [] => .idle
  | d :: rest => decodeMove d.word (latch d { s with env := { s.env with script := rest } })

/-- The word of a table row, `nbits` wide: 16 bits are an RFM12 word, any other width a CMD24 word. -/
def tableWord (nbits w : Nat) : OpWord := if nbits = 16 then .rfm12 (BitVec.ofNat 16 w) else .cmd24 (BitVec.ofNat 24 w)

/-- How a word is issued: an interrupt event by its source, every other word by task context (rule R135). -/
def routeOf (w : OpWord) : Route :=
  match decodeWord w with
  | some i => if i.context = .interrupt then .source else .task
  | none => .task

/-- The move that issues a word with the input ports as they stand. -/
def moveFor (w : OpWord) (p : Ports) : Delivery where
  route := routeOf w
  word := w
  ports := p
  load := none

end Sys2Proof.Machine
end

