-- ==== Sys2Proof/Machine/Step.lean ====
section
/-! DEFINITION. One step of the block: one move of the environment (rule R500). -/

namespace Sys2Proof.Machine

/-- Take the next move of the environment and run its operation. With no move to take the block waits: no rule changes
its state without an operation (rule R500). -/
def step (s : State) : Host.Outcome State Fault Refusal :=
  match fetch s with
  | .idle => .next s
  | .instr i s' => exec i s'
  | .bad e s' => .next (rejectWord s' e)

/-- The state with one word placed as the environment's next move, the input ports as they stand. -/
def State.withFetchWord (s : State) (nbits w : Nat) : State :=
  { s with env := { s.env with script := moveFor (tableWord nbits w) s.env.ports :: s.env.script } }

end Sys2Proof.Machine
end

