-- ==== Sys2Proof/Machine/Outputs.lean ====
section
/-! DEFINITION. The output ports of rule R71, each a function of the state (rules R39, R45, R53, R302). -/

namespace Sys2Proof.Machine

/-- `hb`, the H-bridge port (rule R45). -/
def hbPort (s : State) : Direction := s.mot.direction

/-- `pwm`, the PWM port: 0 while the bridge is off (rule R45). -/
def pwmPort (s : State) : U8 := if s.mot.direction = .stop then 0 else s.mot.pwmDuty

/-- `err` (rules R39, R71). -/
def errPort (s : State) : U8 := s.ctl.errorFlags

/-- `valve` (rule R71). -/
def valvePort (s : State) : U8 := s.ctl.valveHistory0

/-- `posPercent` (rules R71, R302). -/
def posPercentPort (s : State) : U8 := posPercent s.mot

/-- `nSEL`, `SCK` and `SDI` (rules R53, R71). -/
def spiPort (s : State) : SpiPins := s.spi

/-- `res` (rule R71). -/
def resPort (s : State) : U16 := s.res

end Sys2Proof.Machine
end

