-- ==== Sys2Proof/Safety.lean ====
section
/-! DEFINITION. The terms the statements use: when an operation runs its own effect (rules R135, R500, R502, R504, R505),
no stop mark (rules R503, R504), what sending words does (rules R400, R408), what loading a configuration does (rules R61,
R250), the arithmetic of the integrator (rules R224 to R226), quiescence and the end of a run (rule R625), and the
invariants that the rules promise (rules R36, R38, R51, R253, R315, R461, R508). -/

namespace Sys2Proof.Machine

/-! ## When an operation runs its own effect -/

/-- A task command runs: a live state after boot, a legal configuration, task context, no handler running (rules R135,
R500, R504, R525). -/
structure AcceptsCommand (s : State) : Prop where
  live : s.live = true
  legal : cfgProblem s.cfg = none
  context : s.env.issuer ≠ .source
  outside : s.sys.inIsr = false
  booted : s.sys.booted = true

/-- The task of a flag runs: as a command, with the flag pending and the loop awake (rules R505, R516). -/
structure AcceptsTask (s : State) (t : TaskFlag) : Prop extends AcceptsCommand s where
  pending : s.pending t = true
  awake : s.sys.sleeping = false

/-- An internal operation runs: another operation issues it (rules R133, R504, R525). -/
structure AcceptsInternal (s : State) : Prop where
  live : s.live = true
  legal : cfgProblem s.cfg = none
  context : s.env.issuer = .operation
  booted : s.sys.booted = true

/-- An interrupt event whose own condition holds is taken: it comes from its source and interrupts are enabled (rules R135,
R502). -/
structure AcceptsEvent (s : State) : Prop where
  live : s.live = true
  legal : cfgProblem s.cfg = none
  context : s.env.issuer = .source
  enabled : s.sys.gie = true
  booted : s.sys.booted = true

/-- The conditions under which a delivered interrupt event is enabled in a live state (rules R502, R526). -/
structure EventEnabled (i : Instr) (s : State) : Prop where
  source : s.env.issuer = .source
  enabled : s.sys.gie = true
  tick : i = .evTmrTick → wdtEnabled s = false
  watchdog : i = .evMotorWdt → wdtEnabled s = true
  edge : i = .evRfmEdge → s.sys.rfmIrqEn = true ∧ s.env.ports.rfmReady = true

/-- `t` is `s` after the words `ws` went over the bus in order, one response each: only the pins, the history and the draws
of `SDO` changed (rules R400, R408). -/
structure Sends (ws : List U16) (s t : State) : Prop where
  words : ∃ rs : List U16, rs.length = ws.length ∧ t.hist = s.hist ++ (ws.zip rs).map fun p => .spiWord p.1 p.2
  pins :
    t.spi = match ws.getLast? with
      | none => s.spi
      | some w => { nSel := false, sck := false, sdi := w.getLsbD 0 }
  rest :
    t =
      { s with
        spi := t.spi
        hist := t.hist
        env := { s.env with ports := { s.env.ports with sdo := t.env.ports.sdo }, draws := t.env.draws } }

/-- The state after `n` issues of one operation with the ports as they stand, `none` if one of them stops. -/
def repeatOp (i : Instr) : Nat → State → Option State
  | 0, s => some s
  | n + 1, s =>
    match exec i s with
    | .next t => repeatOp i n t
    | .fault _ => none
    | .refused _ => none

/-! ## Loading a configuration -/

/-- The numeric fields of `cfg`, each as an integer: the fields that rule R61 gives bounds and a default. -/
def cfgNumbers : List (Cfg → Int) :=
  ([ (·.setpoint.tempMin.toNat), (·.setpoint.tempMax.toNat), (·.setpoint.tFrost.toNat), (·.setpoint.tPreset0.toNat),
     (·.setpoint.tPreset1.toNat), (·.setpoint.tPreset2.toNat), (·.setpoint.tPreset3.toNat),
     (·.setpoint.wantedInit.toNat) ] : List (Cfg → Int))
  ++ [ (·.pid.pFactor.toNat), (·.pid.iFactor.toNat), (·.pid.p3Factor.toNat), (·.pid.valveCenter.toNat),
       (·.pid.valveMin.toNat), (·.pid.valveMax.toNat), (·.pid.valveHysteresis.toNat), (·.pid.pidInterval.toNat),
       (·.pid.iMaxCredit.toNat), (·.pid.iCreditExpiration.toNat), (·.pid.defineIntegratorBlock.toNat),
       (·.pid.creditShift.toNat), (·.pid.rollbackTol.toNat), (·.pid.valveHistoryLen.toNat) ]
  ++ [ (·.boost.boostSpDiff.toNat), (·.boost.boostErrThld.toNat), (·.boost.boostHyst.toNat),
       (·.boost.boostFactor.toNat) ]
  ++ [ (·.window.openDetectionTime.toNat), (·.window.closeDetectionTime.toNat), (·.window.openDetectionDiff.toNat),
       (·.window.closeDetectionDiff.toNat), (·.window.openTimeout.toNat), (·.window.rbLen.toNat),
       (·.window.hwDebounce.toNat), (·.battery.batLowThld.toNat), (·.battery.batWarningThld.toNat) ]
  ++ [ (·.motor.ignoreImpulses.toNat), (·.motor.minImpulses.toNat), (·.motor.tol.toNat), (·.motor.settleTicks.toNat),
       (·.motor.calLarge.toInt), (·.motor.eyeLow.toNat), (·.motor.eyeHigh.toNat), (·.motor.targetPeriod.toNat),
       (·.motor.pwmDiv.toNat), (·.motor.pwmMaxStep.toNat), (·.motor.pwmMin.toNat), (·.motor.pwmMax.toNat),
       (·.motor.pwmStart.toNat), (·.motor.wdtRun.toNat), (·.motor.wdtCal.toNat), (·.motor.nvMaxPulsesInit.toNat) ]
  ++ [ (·.radio.rfmAddr.toNat), (·.radio.rfmBaud.toNat), (·.radio.bufCap.toNat), (·.radio.pmRx.toNat),
       (·.radio.pmTx.toNat), (·.radio.pmIdle.toNat), (·.radio.fifoClear.toNat), (·.radio.fifoArm.toNat),
       (·.radio.rfmQuiet) ]
  ++ [ (·.init.cfgBits.toNat), (·.init.freq.toNat), (·.init.drate.toNat), (·.init.p16.toNat), (·.init.vdi.toNat),
       (·.init.bwTier0.toNat), (·.init.bwTier1.toNat), (·.init.bwTier2.toNat), (·.init.lna.toNat), (·.init.rssi.toNat),
       (·.init.dfilt.toNat), (·.init.fifoBits.toNat), (·.init.afcBits.toNat), (·.init.mp.toNat),
       (·.init.modTier0.toNat), (·.init.modTier1.toNat), (·.init.modTier2.toNat), (·.init.pwr.toNat),
       (·.init.pll.toNat), (·.init.lbd.toNat) ]
  ++ [ (·.packet.broadcast.toNat), (·.packet.command.toNat), (·.packet.reply.toNat), (·.packet.special.toNat),
       (·.packet.deviceType.toNat) ]

/-- The truth values of `cfg`, which have no bounds to leave. -/
def cfgTruths : List (Cfg → Bool) :=
  [ (·.setpoint.autoInit), (·.pid.enableD), (·.boost.boostEnable), (·.battery.battErrReversible), (·.init.lbdEnable) ]

/-- `new` is what the block holds when the host loads `l` over `old`: a number outside its bounds is replaced by its
default (rule R61), the window strategy stays (rule R250). Together the three clauses fix every field
(`loads_unique` of Laws/Load.lean). -/
structure Loads (old : Cfg) (l : CfgLoad) (new : Cfg) : Prop where
  numbers : ∀ f ∈ cfgNumbers, f new = if f l.lo ≤ f l.raw ∧ f l.raw ≤ f l.hi then f l.raw else f l.dflt
  truths : ∀ f ∈ cfgTruths, f new = f l.raw
  strategy : new.window.windowStrategy = old.window.windowStrategy

/-! ## The integrator -/

/-- The integrator step of an unfrozen evaluation at the error `e` leads from `c` to `t`, in exact integers: sign flip,
credit and its lifetime, headroom, accumulation and its cost, rollback, clamp (rules R225, R226). -/
def IntegratorRuns (cfg : Cfg) (e : Int) (c t : CtlState) : Prop :=
  let a := e.natAbs
  let old := c.valveHistory0.toNat
  let flipped := e ≠ 0 ∧ sgn e ≠ c.lastErrorSign
  let life := if flipped then cfg.pid.iCreditExpiration.toNat else c.creditExpiration.toNat - 1
  let credit : Int :=
    if flipped then cfg.pid.iMaxCredit.toNat else if c.creditExpiration.toNat = 1 then 0 else c.integratorCredit.toInt
  let grows :=
    ((e > 0 ∧ old < cfg.pid.valveMax.toNat) ∨ (e < 0 ∧ cfg.pid.valveMin.toNat < old)) ∧ (flipped ∨ 0 < credit)
  let sum : Int := if grows then c.sumError.toInt + 8 * e else c.sumError.toInt
  let left : Int :=
    if grows ∧ ¬ flipped ∧ c.lastAbsError.toNat ≤ a then max 0 (credit - max 1 (asr a cfg.pid.creditShift.toNat))
    else credit
  let back := 0 < c.integratorCredit.toInt ∧ left = 0 ∧ 3 * c.snapAbs.toNat < 4 * a ∧ cfg.pid.rollbackTol.toNat < a
  let bound : Int := tdiv 3276800 (max cfg.pid.iFactor.toNat 1 : Nat)
  t.sumError.toInt = clamp (if back then c.snapSum.toInt else sum) (-bound) bound ∧
  t.integratorCredit.toInt = left ∧ t.creditExpiration.toNat = life ∧ t.lastAbsError.toNat = a ∧
  t.lastErrorSign = (if e = 0 then c.lastErrorSign else sgn e) ∧ t.blockCount = 0

/-- The integrator step of a frozen evaluation at the error `e` leads from `c` to `t`: the freeze counts down, the
magnitude is stored, the sum is clamped, and sign, credit and lifetime stay (rules R224, R226). -/
def IntegratorFrozen (cfg : Cfg) (e : Int) (c t : CtlState) : Prop :=
  let bound : Int := tdiv 3276800 (max cfg.pid.iFactor.toNat 1 : Nat)
  t.sumError.toInt = clamp c.sumError.toInt (-bound) bound ∧ t.integratorCredit = c.integratorCredit ∧
  t.creditExpiration = c.creditExpiration ∧ t.lastAbsError.toNat = e.natAbs ∧ t.lastErrorSign = c.lastErrorSign ∧
  t.blockCount.toNat + 1 = c.blockCount.toNat

/-! ## Good states and finished runs -/

/-- No fault is recorded and no operation was refused: the premise a claim about a run takes (rules R503, R504). -/
def State.noMark (s : State) : Bool := s.sys.fault.isNone && !s.sys.refused

/-- The own condition of each interrupt event, in the order `EV_TMR_TICK`, `EV_RTC_SECOND`, `EV_EYE_EDGE`,
`EV_MOTOR_WDT`, `EV_RFM_EDGE` (rules R502, R526). -/
def State.eventConditions (s : State) : List Bool :=
  [ !wdtEnabled s, true, true, s.mot.wdtArmed && decide (s.mot.wdtDeadline ≤ s.sys.now),
    s.sys.rfmIrqEn && s.env.ports.rfmReady ]

/-- Some interrupt event is enabled (rule R502). The second and the eye edge have no condition of their own, so this is
so in every live state with `gie = 1`, and a block that is not halted is quiescent with interrupts disabled only (log
entry 21). -/
def State.interruptEnabled (s : State) : Bool := s.live && s.sys.gie && s.eventConditions.any id

/-- The frame machine is idle or listening (rule R625). -/
def frameIdle : Mode → Bool
  | .stop | .rx | .rxOwf => true
  | .startTx | .tx | .txDone => false

/-- The block is quiescent (rule R625). -/
def State.quiescent (s : State) : Bool :=
  s.sys.taskFlags == 0 && driveState s.mot == .idle && !s.interruptEnabled && frameIdle s.frm.mode

/-- The run has ended: the host has no more operations to issue (its script is empty) and the block is quiescent, or it is
halted; never with a stop mark (rule R625). -/
def State.ended (s : State) : Bool :=
  s.noMark && (s.sys.halted || (s.env.script.isEmpty && s.quiescent))

/-! ## Invariants -/

/-- The motor invariants of rule R315, with the one that rule R306 adds (an armed watchdog means a move) and the ones that
rule R66 adds (times that were noted lie in the past). -/
structure MotorInv (s : State) : Prop where
  /-- (a) -/
  driving_armed : s.mot.direction ≠ .stop → s.mot.wdtArmed = true ∧ s.mot.lastDir = s.mot.direction
  armed_moving : s.mot.wdtArmed = true → s.mot.lastDir ≠ .stop
  /-- (b) -/
  calibrated_travel : s.mot.calibrationStep = .calibrated → s.mot.maxPulses ≠ 0
  /-- (c) -/
  early_idle :
    (s.mot.calibrationStep = .uncalibrated ∨ s.mot.calibrationStep = .error ∨ s.mot.calibrationStep = .pendingStart) →
      driveState s.mot = .idle
  /-- (d) -/
  stop_posted : s.pending .motorStop = true ↔ driveState s.mot = .stopPending
  pulse_past : s.mot.lastPulseTime ≤ s.sys.now
  edge_past : s.mot.eyeLastTime ≤ s.sys.now

/-- The frame machine's invariants: the enable of rule R461, the cursor of rule R51 (a), the bytes that rule R452 checked,
and the canonical form of the buffer. -/
structure FrameInv (s : State) : Prop where
  irq_owner : s.sys.rfmIrqEn = true → ownsBuffer s.frm.mode = true
  tx_cursor :
    (s.frm.mode = .startTx ∨ s.frm.mode = .tx) → s.frm.framePos.toNat < s.frm.frameSize.toNat
  done_cursor : s.frm.mode = .txDone → s.frm.framePos.toNat ≤ s.frm.frameSize.toNat
  tx_written :
    (s.frm.mode = .startTx ∨ s.frm.mode = .tx) → ∀ k, k < s.frm.frameSize.toNat → s.bufByte k ≠ none
  canonical : s.frm.frameBuffer.wf = true

/-- The system invariants: `inIsr` is 0 between steps (rule R508), reserved bits read 0 (rules R38, R54), a sleeping loop
has no task (rule R516), interrupts and moves come only after boot (rule R525), and a halted block has not booted
(rule R602). -/
structure SystemInv (s : State) : Prop where
  not_in_isr : s.sys.inIsr = false
  task_reserved : s.sys.taskFlags &&& 0xF8 = 0
  error_reserved : s.ctl.errorFlags &&& 0x07 = 0
  sleep_no_task : s.sys.sleeping = true → s.sys.taskFlags = 0
  gie_booted : s.sys.gie = true → s.sys.booted = true
  unbooted_idle : s.sys.booted = false → driveState s.mot = .idle ∧ s.sys.taskFlags = 0
  halted_unbooted : s.sys.halted = true → s.sys.booted = false

/-- The ranges of rule R253 that no change of `cfg` can break: the sum under the largest bound of rule R226, the credit of
rule R36, the magnitudes of rule R222, and a valve percentage. -/
structure ControlInv (s : State) : Prop where
  sum_bounded : s.ctl.sumError.toInt.natAbs ≤ 3276800
  snap_bounded : s.ctl.snapSum.toInt.natAbs ≤ 3276800
  credit_nonneg : 0 ≤ s.ctl.integratorCredit.toInt
  snap_error : s.ctl.snapAbs.toNat ≤ 1200
  last_error : s.ctl.lastAbsError.toNat ≤ 1200
  valve_percent : s.ctl.valveHistory0.toNat ≤ 100

end Sys2Proof.Machine
end

