-- ==== Sys2Proof/WellFormed.lean ====
section
/-! DEFINITION. The operand values that a rule defines (rule R134). The encodings themselves allow no ill-formed operand,
because every operand has the width of its field; what is left to check is the `U8` values that rules R207, R210 and
R454 leave undefined. -/

namespace Sys2Proof

/-- The mask bits `CTL_ERR_ACK` may acknowledge: battery low, battery warning, radio sync (rule R210). -/
def ackMask : U8 := 0xC8

/-- The rule of the operation defines its operand value (rule R134). -/
def Instr.wellFormed : Instr → Bool
  | .ctlChangeMode k => decide (k.toNat < 4)
  | .ctlErrAck m => m &&& ~~~ackMask == 0
  | .frmTxDone k => decide (k.toNat ≤ 1)
  | .sysReset | .sysBoot | .sysCli | .sysSei | .sysSleep | .ctlTick | .ctlUpdate | .ctlWindowSample | .ctlWindowHw
  | .ctlBattery | .ctlSchedFollow | .ctlTempChangeInc _ | .ctlSetWanted _ | .motGoto _ | .motUpdateCal _
  | .motGetPosPercent | .motTimerPulse _ | .motTimerStop | .spiTransfer16 _ | .rfmInit | .frmTaskAck | .frmStop
  | .frmBufWrite _ _ | .frmStartTx _ | .frmTxSlot | .frmStartRx | .frmRxReset | .frmBufRead _ | .evTmrTick
  | .evRtcSecond | .evEyeEdge _ | .evMotorWdt | .evRfmEdge => true
  | .rfm12StatusRead _ | .rfm12Config _ _ _ _ | .rfm12PowerMgmt _ _ _ _ _ _ _ _ | .rfm12Frequency _
  | .rfm12DataRate _ _ | .rfm12RxControl _ _ _ _ _ | .rfm12DataFilter _ _ _ _ | .rfm12FifoReset _ _ _ _ _
  | .rfm12SyncPattern _ | .rfm12FifoRead | .rfm12Afc _ _ _ _ _ _ | .rfm12TxConfig _ _ _ | .rfm12Pll _ _
  | .rfm12TxWrite _ | .rfm12WakeupTimer _ _ | .rfm12LowDutyCycle _ _ | .rfm12LbdClockDiv _ _ => true

end Sys2Proof
end

