-- ==== Sys2Proof/Certificates/Slice0/Obligations.lean ====
section
/-! DEFINITION. The statements for the provers, unit by unit. An operation's statement gives its whole next state, so it is
its result, its frame and its completion in one. -/

section

open Sys2Proof Sys2Proof.Machine

/-! ## Encoding -/

/-- Words written out from rules R131 to R133 and R136 decode to the operations they stand for. -/
def Obligations.SampleWordsDecode : Prop :=
  decodeTableWord 24 0x010000 = some .sysReset ∧ decodeTableWord 24 0x1700FB = some (.ctlTempChangeInc (-5)) ∧
  decodeTableWord 24 0x200064 = some (.motGoto 100) ∧ decodeTableWord 24 0x309ABC = some (.spiTransfer16 0x9ABC) ∧
  decodeTableWord 24 0x390AC9 = some (.frmBufWrite 10 0xC9) ∧ decodeTableWord 24 0x420001 = some (.evEyeEdge 1) ∧
  decodeTableWord 16 0xA640 = some (.rfm12Frequency 0x640) ∧
  decodeTableWord 16 0x94A0 = some (.rfm12RxControl 1 0 5 0 0) ∧ decodeTableWord 16 0x9890 = some (.rfm12TxConfig 0 9 0)

/-- Decoding the word of an operation gives the operation back, with every operand (rules R131 to R133, R136). -/
def Obligations.DecodeOfEncode : Prop := ∀ i : Instr, decodeWord (encode i) = some i

/-- A word has one meaning: whatever it decodes to is encoded by that word (rules R131 to R133, R136). -/
def Obligations.EncodeOfDecode : Prop := ∀ (w : OpWord) (i : Instr), decodeWord w = some i → encode i = w

/-- Reserved and illegal encodings are refused by name: reserved op values, must-be-zero bits, internal operations issued
directly, undefined operand values (rule R134). -/
def Obligations.IllegalEncodingsRefused : Prop :=
  (∀ w : Cmd24,
    (let op := (cmdOp w).toNat
     op = 0x00 ∨ (0x06 ≤ op ∧ op ≤ 0x0F) ∨ (0x1A ≤ op ∧ op ≤ 0x1F) ∨ (0x25 ≤ op ∧ op ≤ 0x2F) ∨
      (0x32 ≤ op ∧ op ≤ 0x36) ∨ 0x45 ≤ op) →
    decodeCmd24 w = .error .undefOp) ∧
  (∀ w : Cmd24,
    (let op := (cmdOp w).toNat
     (op ∈ [0x01, 0x02, 0x03, 0x04, 0x05, 0x10, 0x11, 0x12, 0x13, 0x14, 0x15, 0x22, 0x24, 0x31, 0x37, 0x38, 0x3B, 0x3D,
        0x3E, 0x40, 0x41, 0x43, 0x44] ∧ cmdArg w ≠ 0) ∨
      (op ∈ [0x16, 0x17, 0x18, 0x19, 0x20, 0x21, 0x3A, 0x3C, 0x3F] ∧ cmdArgH w ≠ 0) ∨
      (op = 0x42 ∧ w.extractLsb' 1 15 ≠ 0)) →
    decodeCmd24 w = .error .reservedBits) ∧
  (∀ (s : State) (d : Delivery) (rest : List Delivery) (w : Cmd24) (e : DecodeError),
    s.env.script = d :: rest → d.load = none → d.word = .cmd24 w → decodeCmd24 w = .error e → s.live = true →
    cfgProblem s.cfg = none →
    ∃ t, step s = .next t ∧
      t =
        { s with
          sys := { s.sys with refused := true }
          env :=
            { s.env with
              script := rest
              ports := d.ports
              issuer := t.env.issuer
              report := some (match e with | .undefOp => .undefOp | .reservedBits => .reservedBits) } }) ∧
  (∀ (i : Instr) (s : State), i.context = .internal → s.env.issuer ≠ .operation → s.live = true →
    cfgProblem s.cfg = none → exec i s = .next (markRefused s .internal)) ∧
  (∀ (i : Instr) (s : State), i.wellFormed = false → AcceptsCommand s →
    ((∃ k, i = .frmTxDone k) → s.frm.mode = .txDone) → exec i s = .next (markRefused s .badArg))

/-! ## The step and the gate -/

/-- A step runs the operation that the next move's word decodes to, at the move's ports and issuer; a 16-bit word that
decodes to nothing is sent as `SPI_TRANSFER16` of it (rule R138; log entry 8). A configuration that the move carries is in
place first, its numbers outside their bounds replaced by the defaults (rule R61) and the window strategy kept (rule R250;
that it is kept by a load and that a load carries bounds and defaults is the model's choice, log entry 20). With no move a
step changes nothing. The script of moves is the model's form of the environment (log entry 4). -/
def Obligations.StepRunsDecoded : Prop :=
  (∀ (s : State) (d : Delivery) (rest : List Delivery), s.env.script = d :: rest →
    ∃ c : Cfg,
      (d.load = none → c = s.cfg) ∧ (∀ l, d.load = some l → Loads s.cfg l c) ∧
      (let t :=
        { s with
          cfg := c
          env :=
            { s.env with
              script := rest
              ports := d.ports
              issuer := match d.route with
                | .task => .task
                | .source => .source } }
       (∀ i, decodeWord d.word = some i → step s = exec i t) ∧
       (∀ w, d.word = .rfm12 w → decodeWord d.word = none → step s = exec (.spiTransfer16 w) t))) ∧
  (∀ s : State, s.env.script = [] → step s = .next s)

/-- In a state that is not live (halted, faulted or refused) no operation but `SYS_RESET` changes anything (rules R500,
R503, R504, R602). The rules enable nothing else there; that an operation issued all the same answers the same state is
the model's choice (log entry 11). -/
def Obligations.DeadStateFrozen : Prop :=
  ∀ (i : Instr) (s : State), (s.sys.halted = true ∨ s.sys.fault ≠ none ∨ s.sys.refused = true) → i ≠ .sysReset →
    exec i s = .next s

/-- A step that records a fault or a refusal changes nothing else (rules R503, R504); `env.report` is the model's own
record of the reason (log entry 7). -/
def Obligations.MarksDiscardEffects : Prop :=
  ∀ (i : Instr) (s t : State), s.live = true → exec i s = .next t →
    (t.sys.fault ≠ none → t = { s with sys := { s.sys with fault := t.sys.fault } }) ∧
    (t.sys.refused = true →
      t = { s with sys := { s.sys with refused := true }, env := { s.env with report := t.env.report } })

/-- The context and boot checks: interrupt events issued as commands and task operations issued inside a handler are
refused with R_CONTEXT; before boot every operation but `SYS_RESET` and `SYS_BOOT` that passes its context check is
refused with R_NOT_BOOTED, and with `gie = 0` no interrupt event is taken (rules R135, R504, R525). -/
def Obligations.ContextAndBootChecks : Prop :=
  (∀ (i : Instr) (s : State), s.live = true → cfgProblem s.cfg = none →
    ((i.context = .interrupt ∧ s.env.issuer ≠ .source) ∨ (i.context = .task ∧ s.sys.inIsr = true)) →
    exec i s = .next (markRefused s .context)) ∧
  (∀ (i : Instr) (s : State), s.sys.booted = false → s.live = true → cfgProblem s.cfg = none → i ≠ .sysBoot →
    ((i.context = .task ∧ s.env.issuer ≠ .source ∧ s.sys.inIsr = false) ∨
      (i.context = .internal ∧ s.env.issuer = .operation)) →
    exec i s = .next (markRefused s .notBooted)) ∧
  (∀ (i : Instr) (s : State), s.sys.gie = false → i.context = .interrupt → s.env.issuer = .source → exec i s = .next s)

/-- Every operation but `SYS_RESET` (and an event that is not taken) checks the configuration first: a valve history of
another length than 1, then the D-term, then the bounds and the field widths (rules R37, R61, R252, R409, R504). -/
def Obligations.IllegalConfigRefused : Prop :=
  ∀ (i : Instr) (s : State), s.live = true → i ≠ .sysReset →
    (i.context = .interrupt → s.env.issuer ≠ .source ∨ EventEnabled i s) →
    (s.cfg.pid.valveHistoryLen ≠ 1 → exec i s = .next (markRefused s .historyLen)) ∧
    (s.cfg.pid.valveHistoryLen = 1 → s.cfg.pid.enableD = true → exec i s = .next (markRefused s .dTerm)) ∧
    (s.cfg.pid.valveHistoryLen = 1 → s.cfg.pid.enableD = false →
      (s.cfg.setpoint.tempMin.toNat < 1 ∨ 0xFE < s.cfg.setpoint.tempMax.toNat + 1 ∨
        s.cfg.setpoint.tempMax.toNat < s.cfg.setpoint.tempMin.toNat ∨
        s.cfg.pid.valveMax.toNat < s.cfg.pid.valveMin.toNat ∨ 100 < s.cfg.pid.valveMax.toNat ∨
        127 < s.cfg.pid.iMaxCredit.toNat ∨ s.cfg.motor.pwmMax.toNat < s.cfg.motor.pwmMin.toNat ∨
        s.cfg.motor.pwmDiv.toNat < 1 ∨ s.cfg.motor.calLarge.toInt < 1 ∨ 16383 < s.cfg.motor.calLarge.toInt ∨
        s.cfg.window.rbLen.toNat < s.cfg.window.openDetectionTime.toNat ∨
        s.cfg.window.rbLen.toNat < s.cfg.window.closeDetectionTime.toNat ∨ s.cfg.radio.bufCap.toNat < 1 ∨
        s.cfg.battery.batWarningThld.toNat < s.cfg.battery.batLowThld.toNat ∨
        256 ≤ s.cfg.init.cfgBits.toNat ∨ 4096 ≤ s.cfg.init.freq.toNat ∨ 256 ≤ s.cfg.init.drate.toNat ∨
        2 ≤ s.cfg.init.p16.toNat ∨ 4 ≤ s.cfg.init.vdi.toNat ∨ 8 ≤ s.cfg.init.bwTier0.toNat ∨
        8 ≤ s.cfg.init.bwTier1.toNat ∨ 8 ≤ s.cfg.init.bwTier2.toNat ∨ 4 ≤ s.cfg.init.lna.toNat ∨
        8 ≤ s.cfg.init.rssi.toNat ∨ 256 ≤ s.cfg.init.dfilt.toNat ∨ 256 ≤ s.cfg.init.fifoBits.toNat ∨
        256 ≤ s.cfg.init.afcBits.toNat ∨ 2 ≤ s.cfg.init.mp.toNat ∨ 16 ≤ s.cfg.init.modTier0.toNat ∨
        16 ≤ s.cfg.init.modTier1.toNat ∨ 16 ≤ s.cfg.init.modTier2.toNat ∨ 8 ≤ s.cfg.init.pwr.toNat ∨
        128 ≤ s.cfg.init.pll.toNat ∨ 256 ≤ s.cfg.init.lbd.toNat) →
      exec i s = .next (markRefused s .cfg))

/-- An interrupt event delivered while it is not enabled is not taken and changes nothing; a tick is not enabled while the
watchdog is (rules R502, R526). -/
def Obligations.DisabledEventsIgnored : Prop :=
  ∀ s : State, s.env.issuer = .source →
    (∀ i : Instr, i.context = .interrupt → s.sys.gie = false → exec i s = .next s) ∧
    (s.mot.wdtArmed = false ∨ s.sys.now < s.mot.wdtDeadline → exec .evMotorWdt s = .next s) ∧
    (s.sys.rfmIrqEn = false ∨ s.env.ports.rfmReady = false → exec .evRfmEdge s = .next s) ∧
    (s.sys.gie = true ∧ s.mot.wdtArmed = true ∧ s.mot.wdtDeadline ≤ s.sys.now → exec .evTmrTick s = .next s)

/-- Which operations write the fields that the rules give to one writer: `cfg` none (rule R60), the persisted hint the end
of calibration phase 3 (rule R52), the time base the timer tick (rule R66), the calibration step `MOT_UPDATE_CAL` and
`MOT_TIMER_STOP`, the first also inside `CTL_TICK` (rule R43). -/
def Obligations.SoleWriters : Prop :=
  ∀ (i : Instr) (s t : State), exec i s = .next t →
    t.cfg = s.cfg ∧
    (t.nv ≠ s.nv → i = .motTimerStop ∧ s.mot.calibrationStep = .toClose ∧ t.mot.calibrationStep = .calibrated) ∧
    (t.sys.now ≠ s.sys.now → i = .sysReset ∨ (i = .evTmrTick ∧ t.sys.now = s.sys.now + 1)) ∧
    (t.mot.calibrationStep ≠ s.mot.calibrationStep →
      i = .sysReset ∨ i = .motTimerStop ∨ i = .ctlTick ∨ ∃ r, i = .motUpdateCal r)

/-! ## Reset, boot, sleep, time -/

/-- `SYS_RESET` completes in every state with the reset values, keeps the persisted hint and the configuration, and takes
the eye level from the input (rules R600, R603). -/
def Obligations.ResetResult : Prop :=
  ∀ s : State, ∃ t, exec .sysReset s = .next t ∧
    (∃ w : U8, w = clampT s.cfg.setpoint s.cfg.setpoint.wantedInit.toNat ∧
      t.ctl =
        { wantedTemperature := w, lastAppliedTemperature := 0xFF, scheduleTemperatureType := 0xFF,
          autoMode := s.cfg.setpoint.autoInit, windowOpenState := 0, sumError := 0, integratorCredit := 0,
          creditExpiration := 0, blockCount := 0, snapSum := 0, snapAbs := 0, lastErrorSign := .zero, lastAbsError := 0,
          valveHistory0 := 0, errorFlags := 0, pidCounter := 0, boostSecs := 0, boostDir := .zero, savedAuto := false,
          savedType := 0xFF, savedWanted := w, winHist := [], reedTrusted := false, reedCount := 0 }) ∧
    t.mot =
      { direction := .stop, lastDir := .stop, positionPulses := 0, maxPulses := 0, targetPulses := 0,
        calibrationStep := .uncalibrated, pwmDuty := 0, overshootPulses := 0, stopReason := .none, ignoreCount := 0,
        wdtArmed := false, wdtDeadline := 0, eyeLevel := s.env.ports.eye, eyeLastTime := 0, lastPulseTime := 0,
        settleCount := 0 } ∧
    t.frm.mode = .stop ∧ t.frm.frameSize = 0 ∧ t.frm.framePos = 0 ∧ (∀ a, t.bufByte a = none) ∧
    t.spi = { nSel := true, sck := false, sdi := false } ∧
    t.sys =
      { taskFlags := 0, gie := false, rfmIrqEn := false, inIsr := false, sleeping := false, booted := false,
        halted := false, fault := none, refused := false, now := 0 } ∧
    t.hist = [] ∧ t.nv = s.nv ∧ t.cfg = s.cfg

/-- `SYS_BOOT`: refused when booted; a layout mismatch halts before any bus word; else the radio is initialised unless its
address is 0, and `gie` and `booted` are set (rules R403, R601). -/
def Obligations.BootResult : Prop :=
  ∀ s : State, s.live = true → cfgProblem s.cfg = none → s.env.issuer ≠ .source → s.sys.inIsr = false →
    if s.sys.booted then exec .sysBoot s = .next (markRefused s .context)
    else if s.env.ports.layoutOk = false then
      exec .sysBoot s = .next { s with sys := { s.sys with halted := true, sleeping := false } }
    else
      ∃ u, Sends (if s.cfg.radio.rfmAddr = 0 then [] else initWords s.cfg) s u ∧
        exec .sysBoot s = .next { u with sys := { s.sys with gie := true, booted := true, sleeping := false } }

/-- `SYS_CLI` clears and `SYS_SEI` sets the global enable (rules R514, R515); as host commands they end a sleep
(rule R523). `SYS_SLEEP` sets `sleeping` when no task is pending, and is refused otherwise (rule R516). -/
def Obligations.EnableAndSleepResult : Prop :=
  ∀ s : State, AcceptsCommand s →
    exec .sysCli s = .next { s with sys := { s.sys with gie := false, sleeping := false } } ∧
    exec .sysSei s = .next { s with sys := { s.sys with gie := true, sleeping := false } } ∧
    (if s.sys.taskFlags = 0 then exec .sysSleep s = .next { s with sys := { s.sys with sleeping := true } }
     else exec .sysSleep s = .next (markRefused s .context))

/-- The timer tick advances `now` by one, and the second posts the tick task; both leave interrupts enabled and the loop
awake (rules R507, R508, R511, R512). -/
def Obligations.TimeEvents : Prop :=
  ∀ s : State, AcceptsEvent s →
    (s.mot.wdtArmed = false ∨ s.sys.now < s.mot.wdtDeadline →
      exec .evTmrTick s =
        .next { s with sys := { s.sys with now := s.sys.now + 1, gie := true, inIsr := false, sleeping := false } }) ∧
    exec .evRtcSecond s =
      .next
        { s with
          sys := { s.sys with taskFlags := s.sys.taskFlags ||| 0x01, gie := true, inIsr := false, sleeping := false } }

/-! ## Controller -/

/-- `CTL_TICK` clears its flag and runs the operations of rule R200 in their order, each as another operation issues it. -/
def Obligations.TickRunsItsOperations : Prop :=
  ∀ s : State, AcceptsTask s .tick →
    ∃ s2 s3 s4 s5 s6 s7 s8 : State,
      let s0 : State :=
        { s with
          sys := { s.sys with taskFlags := s.sys.taskFlags &&& ~~~0x01 }
          env := { s.env with issuer := .operation } }
      let s1 : State :=
        if s.env.ports.syncLost then { s0 with ctl := { s0.ctl with errorFlags := s0.ctl.errorFlags ||| 0x08 } } else s0
      exec .ctlSchedFollow s1 = .next s2 ∧
      (if s.cfg.window.windowStrategy = .hw then exec .ctlWindowHw s2 = .next s3 else s3 = s2) ∧
      exec .ctlBattery s3 = .next s4 ∧
      exec .ctlUpdate s4 = .next s5 ∧
      exec (.motGoto s5.ctl.valveHistory0) s5 = .next s6 ∧
      (let m := s.env.ports.mounted
       exec (.motUpdateCal (if m then 1 else 0))
          { s6 with
            ctl :=
              { s6.ctl with
                errorFlags := if m then s6.ctl.errorFlags &&& ~~~0x20 else s6.ctl.errorFlags ||| 0x20 } } =
        .next s7) ∧
      exec .frmTxSlot s7 = .next s8 ∧
      exec .ctlTick s = .next { s8 with env := { s8.env with issuer := s.env.issuer } }

/-- `CTL_UPDATE` completes and writes controller fields only, and of those only the ones rule R31 gives to rule R201. -/
def Obligations.UpdateFrame : Prop :=
  ∀ s : State, AcceptsInternal s →
    ∃ t, exec .ctlUpdate s = .next t ∧ t = { s with ctl := t.ctl } ∧
      t.ctl.wantedTemperature = s.ctl.wantedTemperature ∧
      t.ctl.scheduleTemperatureType = s.ctl.scheduleTemperatureType ∧ t.ctl.autoMode = s.ctl.autoMode ∧
      t.ctl.windowOpenState = s.ctl.windowOpenState ∧ t.ctl.errorFlags = s.ctl.errorFlags ∧
      t.ctl.savedAuto = s.ctl.savedAuto ∧ t.ctl.savedType = s.ctl.savedType ∧
      t.ctl.savedWanted = s.ctl.savedWanted ∧ t.ctl.winHist = s.ctl.winHist ∧
      t.ctl.reedTrusted = s.ctl.reedTrusted ∧ t.ctl.reedCount = s.ctl.reedCount

/-- `CTL_UPDATE` without a temperature, or between polls with an unchanged setpoint, counts a tick and does nothing else
(rules R201 A to C, R220). -/
def Obligations.UpdateGated : Prop :=
  ∀ s : State, AcceptsInternal s →
    (s.env.ports.tempValid = false ∨
      ((if s.ctl.windowOpenState.toNat > 0 then s.cfg.setpoint.tFrost else s.ctl.wantedTemperature) =
          s.ctl.lastAppliedTemperature ∧
        s.ctl.boostSecs = 0 ∧ min (s.ctl.pidCounter.toNat + 1) 255 < s.cfg.pid.pidInterval.toNat)) →
    ∃ p : U8, p.toNat = min (s.ctl.pidCounter.toNat + 1) 255 ∧
      exec .ctlUpdate s = .next { s with ctl := { s.ctl with pidCounter := p } }

/-- An evaluation at the OFF or ON sentinel commands 0 or 100 percent and leaves the integrator alone (rules R32, R201 D,
R221). -/
def Obligations.UpdateSentinel : Prop :=
  ∀ s : State, AcceptsInternal s → s.env.ports.tempValid = true →
    let eff := if s.ctl.windowOpenState.toNat > 0 then s.cfg.setpoint.tFrost else s.ctl.wantedTemperature
    (eff ≠ s.ctl.lastAppliedTemperature ∨
      (s.ctl.boostSecs = 0 ∧ s.cfg.pid.pidInterval.toNat ≤ min (s.ctl.pidCounter.toNat + 1) 255)) →
    (eff.toNat + 1 = s.cfg.setpoint.tempMin.toNat ∨ eff.toNat = s.cfg.setpoint.tempMax.toNat + 1) →
    exec .ctlUpdate s =
      .next
        { s with
          ctl :=
            { s.ctl with
              pidCounter := 0
              valveHistory0 := if eff.toNat + 1 = s.cfg.setpoint.tempMin.toNat then 0 else 100
              boostSecs := 0
              lastAppliedTemperature := eff } }

/-- The evaluation of a setpoint change: credit and lifetime to their maxima, snapshots taken, a boost started when the
rule's conditions hold; then, with a freeze length above 0, the first frozen integrator step, and with a freeze length of 0
the integrator's own step, from the fresh credit and snapshots (rules R201 E and F, R222 to R226, R229). -/
def Obligations.UpdateSetpointChange : Prop :=
  ∀ s : State, AcceptsInternal s → s.env.ports.tempValid = true →
    let c := s.ctl
    let cfg := s.cfg
    let eff := if c.windowOpenState.toNat > 0 then cfg.setpoint.tFrost else c.wantedTemperature
    let e : Int := clamp ((eff.toNat : Int) * 50 - s.env.ports.tempAvg.toInt) (-1200) 1200
    let fresh : CtlState :=
      { c with
        integratorCredit := cfg.pid.iMaxCredit, creditExpiration := cfg.pid.iCreditExpiration,
        blockCount := cfg.pid.defineIntegratorBlock, snapSum := c.sumError, snapAbs := BitVec.ofNat 16 e.natAbs }
    let boost :=
      cfg.boost.boostEnable && c.lastAppliedTemperature != 0xFF
        && decide (((eff.toNat : Int) - c.lastAppliedTemperature.toNat).natAbs > cfg.boost.boostSpDiff.toNat)
        && decide (e.natAbs > cfg.boost.boostErrThld.toNat)
    eff ≠ c.lastAppliedTemperature → eff.toNat + 1 ≠ cfg.setpoint.tempMin.toNat →
    eff.toNat ≠ cfg.setpoint.tempMax.toNat + 1 →
    ∃ t, exec .ctlUpdate s = .next t ∧
      (if cfg.pid.defineIntegratorBlock = 0 then IntegratorRuns cfg e fresh t.ctl
       else IntegratorFrozen cfg e fresh t.ctl) ∧
      t.ctl.snapSum = c.sumError ∧ t.ctl.snapAbs.toNat = e.natAbs ∧ t.ctl.pidCounter = 0 ∧
      t.ctl.lastAppliedTemperature = eff ∧
      (t.ctl.boostSecs.toNat : Int) =
        (if boost then min (asr ((e.natAbs : Int) * cfg.boost.boostFactor.toNat) 8 * 60) 65535 else 0) ∧
      t.ctl.boostDir = if boost then sgn e else c.boostDir

/-- The integrator of an evaluation at an unchanged setpoint: unfrozen, sign flip, credit lifetime, headroom, accumulation
and its cost, rollback and clamp, in exact integers; frozen, the freeze counts down and the sum is only clamped. Snapshots
and boost fields stay (rules R201 F, R222, R224, R225, R226). -/
def Obligations.UpdateIntegrator : Prop :=
  ∀ s : State, AcceptsInternal s → s.env.ports.tempValid = true →
    let c := s.ctl
    let cfg := s.cfg
    let eff := if c.windowOpenState.toNat > 0 then cfg.setpoint.tFrost else c.wantedTemperature
    let e : Int := clamp ((eff.toNat : Int) * 50 - s.env.ports.tempAvg.toInt) (-1200) 1200
    eff = c.lastAppliedTemperature → c.boostSecs = 0 → cfg.pid.pidInterval.toNat ≤ min (c.pidCounter.toNat + 1) 255 →
    eff.toNat + 1 ≠ cfg.setpoint.tempMin.toNat → eff.toNat ≠ cfg.setpoint.tempMax.toNat + 1 →
    ∃ t, exec .ctlUpdate s = .next t ∧
      (if c.blockCount = 0 then IntegratorRuns cfg e c t.ctl else IntegratorFrozen cfg e c t.ctl) ∧
      t.ctl.snapSum = c.snapSum ∧ t.ctl.snapAbs = c.snapAbs ∧ t.ctl.boostSecs = 0 ∧ t.ctl.boostDir = c.boostDir ∧
      t.ctl.pidCounter = 0 ∧ t.ctl.lastAppliedTemperature = eff

/-- The output of an evaluation that reaches step G: the sum of the law, clamped, rounded with hysteresis against the
previous output and clamped to the valve range; in a boost the limit in its direction (rules R201 G and H, R222, R227,
R228, R229). -/
def Obligations.UpdateOutput : Prop :=
  ∀ s : State, AcceptsInternal s → s.env.ports.tempValid = true →
    let c := s.ctl
    let cfg := s.cfg
    let eff := if c.windowOpenState.toNat > 0 then cfg.setpoint.tFrost else c.wantedTemperature
    let e : Int := clamp ((eff.toNat : Int) * 50 - s.env.ports.tempAvg.toInt) (-1200) 1200
    let old : Int := c.valveHistory0.toNat
    (eff ≠ c.lastAppliedTemperature ∨
      (c.boostSecs = 0 ∧ cfg.pid.pidInterval.toNat ≤ min (c.pidCounter.toNat + 1) 255)) →
    eff.toNat + 1 ≠ cfg.setpoint.tempMin.toNat → eff.toNat ≠ cfg.setpoint.tempMax.toNat + 1 →
    ∃ t, exec .ctlUpdate s = .next t ∧ t.ctl.lastAppliedTemperature = eff ∧ t.ctl.pidCounter = 0 ∧
      (let q : Int :=
        (cfg.pid.pFactor.toNat : Int) * e + (cfg.pid.p3Factor.toNat : Int) * tdiv (e * e * e) 256
          + (cfg.pid.iFactor.toNat : Int) * t.ctl.sumError.toInt + (cfg.pid.valveCenter.toNat : Int) * 256
       let qc := clamp q 0 ((cfg.pid.valveMax.toNat : Int) * 256)
       let r :=
        if old * 256 ≤ qc then max old (asr (qc + 128 - cfg.pid.valveHysteresis.toNat) 8)
        else min old (asr (qc + 128 + cfg.pid.valveHysteresis.toNat) 8)
       if t.ctl.boostSecs = 0 then
        (t.ctl.valveHistory0.toNat : Int) = clamp r cfg.pid.valveMin.toNat cfg.pid.valveMax.toNat
       else t.ctl.valveHistory0 = if t.ctl.boostDir = .pos then cfg.pid.valveMax else cfg.pid.valveMin)

/-- A boost in progress at an unchanged setpoint: while the error stays large it outputs the limit in its direction and
counts down, else it ends and the tick goes on as without a boost (rules R201 C, R229). -/
def Obligations.UpdateBoost : Prop :=
  ∀ s : State, AcceptsInternal s → s.env.ports.tempValid = true →
    let c := s.ctl
    let cfg := s.cfg
    let eff := if c.windowOpenState.toNat > 0 then cfg.setpoint.tFrost else c.wantedTemperature
    let e : Int := clamp ((eff.toNat : Int) * 50 - s.env.ports.tempAvg.toInt) (-1200) 1200
    eff = c.lastAppliedTemperature → 0 < c.boostSecs.toNat →
    if (e.natAbs : Int) < (cfg.boost.boostErrThld.toNat : Int) - cfg.boost.boostHyst.toNat then
      exec .ctlUpdate s = exec .ctlUpdate { s with ctl := { c with boostSecs := 0 } } ∧
      ∃ t, exec .ctlUpdate s = .next t ∧ t.ctl.boostSecs = 0
    else
      ∃ p : U8, p.toNat = min (c.pidCounter.toNat + 1) 255 ∧
        exec .ctlUpdate s =
          .next
            { s with
              ctl :=
                { c with
                  pidCounter := p
                  boostSecs := c.boostSecs - 1
                  valveHistory0 := if c.boostDir = .pos then cfg.pid.valveMax else cfg.pid.valveMin } }

/-- `CTL_WINDOW_SAMPLE`: a drop below the trailing maximum opens, a rise above the trailing minimum closes, else an open
window counts down; the sample is appended and the oldest dropped (rules R202, R250). -/
def Obligations.WindowSampleResult : Prop :=
  ∀ s : State, AcceptsCommand s →
    if s.cfg.window.windowStrategy = .thermal ∧ s.env.ports.tempValid = true then
      let w := s.cfg.window
      let x := s.env.ports.tempAvg
      let h := s.ctl.winHist
      let trail := fun n : U8 => h.drop (h.length - n.toNat)
      ∃ v : U8,
        exec .ctlWindowSample s =
          .next
            { s with
              ctl :=
                { s.ctl with
                  windowOpenState := v
                  winHist := (h ++ [x]).drop ((h ++ [x]).length - w.rbLen.toNat) }
              sys := { s.sys with sleeping := false } } ∧
        (s.ctl.windowOpenState = 0 →
          ((∃ y ∈ trail w.openDetectionTime, y.toInt - x.toInt > w.openDetectionDiff.toNat) →
            v.toNat = max w.openTimeout.toNat 1) ∧
          ((∀ y ∈ trail w.openDetectionTime, y.toInt - x.toInt ≤ w.openDetectionDiff.toNat) → v = 0)) ∧
        (s.ctl.windowOpenState ≠ 0 →
          ((∃ y ∈ trail w.closeDetectionTime, x.toInt - y.toInt > w.closeDetectionDiff.toNat) → v = 0) ∧
          ((∀ y ∈ trail w.closeDetectionTime, x.toInt - y.toInt ≤ w.closeDetectionDiff.toNat) →
            v.toNat = s.ctl.windowOpenState.toNat - 1))
    else exec .ctlWindowSample s = .next { s with sys := { s.sys with sleeping := false } }

/-- `CTL_WINDOW_HW`: the reed debounce, and `windowOpenState` following the trusted state; without effect under the
thermal strategy (rules R203, R250). -/
def Obligations.WindowReedResult : Prop :=
  ∀ s : State, AcceptsInternal s →
    if s.cfg.window.windowStrategy = .hw then
      ∃ n : U8, n.toNat = min (s.ctl.reedCount.toNat + 1) 255 ∧
        (let reed := s.env.ports.reed
         let trusts := reed ≠ s.ctl.reedTrusted ∧ s.cfg.window.hwDebounce.toNat ≤ n.toNat
         let trusted := if trusts then reed else s.ctl.reedTrusted
         exec .ctlWindowHw s =
          .next
            { s with
              ctl :=
                { s.ctl with
                  reedTrusted := trusted
                  reedCount := if reed = s.ctl.reedTrusted ∨ trusts then 0 else n
                  windowOpenState := if trusted then 1 else 0 } })
    else exec .ctlWindowHw s = .next s

/-- `CTL_BATTERY`: below the low threshold both flags, between the thresholds the warning, above both cleared where the
build is reversible (rule R204). -/
def Obligations.BatteryResult : Prop :=
  ∀ s : State, AcceptsInternal s →
    let f := s.ctl.errorFlags
    let v := s.env.ports.batMv.toInt
    let b := s.cfg.battery
    exec .ctlBattery s =
      .next
        { s with
          ctl :=
            { s.ctl with
              errorFlags :=
                if s.env.ports.batValid = false then f
                else if v < b.batLowThld.toNat then f ||| 0xC0
                else if v < b.batWarningThld.toNat then
                  if b.battErrReversible then (f ||| 0x40) &&& ~~~0x80 else f ||| 0x40
                else if b.battErrReversible then f &&& ~~~0xC0 else f } }

/-- `CTL_SCHED_FOLLOW`: in automatic mode a valid type that differs from the stored one is stored and its preset loaded
(rules R32, R34, R205). -/
def Obligations.ScheduleFollowResult : Prop :=
  ∀ s : State, AcceptsInternal s →
    let ty := s.env.ports.schedType
    let c := s.cfg.setpoint
    if s.ctl.autoMode = true ∧ ty.toNat < 4 ∧ ty ≠ s.ctl.scheduleTemperatureType then
      ∃ w : U8,
        (w.toNat : Int) =
          clamp ([c.tPreset0, c.tPreset1, c.tPreset2, c.tPreset3].getD ty.toNat 0).toNat ((c.tempMin.toNat : Int) - 1)
            ((c.tempMax.toNat : Int) + 1) ∧
        exec .ctlSchedFollow s =
          .next { s with ctl := { s.ctl with scheduleTemperatureType := ty, wantedTemperature := w } }
    else exec .ctlSchedFollow s = .next s

/-- `CTL_CHANGE_MODE`: toggle with the selection saved, revoke, force manual, force automatic, and the refusal of every
other operand; entering automatic mode pulls the schedule (rules R32, R207, R211). That REVOKE writes
the saved setpoint as it stands, where rule R32 would clamp it under bounds that moved, is the model's reading (log entry
30). -/
def Obligations.ChangeModeResult : Prop :=
  ∀ (s : State) (k : U8), AcceptsCommand s →
    let c := s.ctl
    let cf := s.cfg.setpoint
    let ty := s.env.ports.schedType
    let awake := { s.sys with sleeping := false }
    ∃ w : U8,
      (ty.toNat < 4 →
        (w.toNat : Int) =
          clamp ([cf.tPreset0, cf.tPreset1, cf.tPreset2, cf.tPreset3].getD ty.toNat 0).toNat
            ((cf.tempMin.toNat : Int) - 1) ((cf.tempMax.toNat : Int) + 1)) ∧
      (¬ ty.toNat < 4 → w = c.wantedTemperature) ∧
      (let pulled := if ty.toNat < 4 then ty else 0xFF
       let saved :=
        { c with savedAuto := c.autoMode, savedType := c.scheduleTemperatureType, savedWanted := c.wantedTemperature }
       exec (.ctlChangeMode k) s =
        .next
          (if k = 0 then
            { s with
              ctl :=
                if c.autoMode then { saved with autoMode := false }
                else { saved with autoMode := true, scheduleTemperatureType := pulled, wantedTemperature := w }
              sys := awake }
          else if k = 1 then
            { s with
              ctl :=
                { c with
                  autoMode := c.savedAuto, scheduleTemperatureType := c.savedType, wantedTemperature := c.savedWanted }
              sys := awake }
          else if k = 2 then { s with ctl := { c with autoMode := false }, sys := awake }
          else if k = 3 then
            { s with
              ctl := { c with autoMode := true, scheduleTemperatureType := pulled, wantedTemperature := w }
              sys := awake }
          else markRefused s .badArg))

/-- `CTL_TEMP_CHANGE_INC` and `CTL_SET_WANTED`: the clamped setpoint, the window state cleared, the next evaluation forced
(rules R32, R208, R209). -/
def Obligations.SetpointResult : Prop :=
  ∀ (s : State) (d : I8) (v : U8), AcceptsCommand s →
    let lo := (s.cfg.setpoint.tempMin.toNat : Int) - 1
    let hi := (s.cfg.setpoint.tempMax.toNat : Int) + 1
    let after := fun w : U8 =>
      { s with
        ctl := { s.ctl with wantedTemperature := w, windowOpenState := 0, pidCounter := s.cfg.pid.pidInterval }
        sys := { s.sys with sleeping := false } }
    (∃ w : U8, (w.toNat : Int) = clamp ((s.ctl.wantedTemperature.toNat : Int) + d.toInt) lo hi ∧
      exec (.ctlTempChangeInc d) s = .next (after w)) ∧
    (∃ w : U8, (w.toNat : Int) = clamp v.toNat lo hi ∧ exec (.ctlSetWanted v) s = .next (after w))

/-- `CTL_ERR_ACK` clears the bits of a mask within 0xC8 and is refused for any other mask (rule R210). -/
def Obligations.ErrorAckResult : Prop :=
  ∀ (s : State) (m : U8), AcceptsCommand s →
    if m &&& ~~~0xC8 = 0 then
      exec (.ctlErrAck m) s =
        .next
          { s with
            ctl := { s.ctl with errorFlags := s.ctl.errorFlags &&& ~~~m }
            sys := { s.sys with sleeping := false } }
    else exec (.ctlErrAck m) s = .next (markRefused s .badArg)

/-! ## Motor -/

/-- `MOT_GOTO`: no effect unless calibrated and not coasting or stop pending; within the tolerance a running drive is cut;
else the same direction only takes the new target and a new direction starts a drive (rules R300, R307, R308, R310,
R311). A target above 32767 has no i16 value (rule R11, log entry 5). -/
def Obligations.GotoResult : Prop :=
  ∀ (s : State) (p : U8), AcceptsCommand s →
    let m := s.mot
    let awake := { s.sys with sleeping := false }
    let pct := min p.toNat 100
    let t : Int :=
      if pct = 0 then 0 else if 100 ≤ pct then m.maxPulses.toNat else (pct * m.maxPulses.toNat / 100 : Nat)
    let diff : Int := t - m.positionPulses.toInt
    let dir := if 0 < diff then Direction.opening else .closing
    t ≤ 32767 →
    exec (.motGoto p) s =
      .next
        { s with
          mot :=
            if m.calibrationStep ≠ .calibrated ∨ (m.direction = .stop ∧ (m.wdtArmed = true ∨ m.lastDir ≠ .stop)) then m
            else if diff.natAbs ≤ s.cfg.motor.tol.toNat then
              if m.direction ≠ .stop then
                { m with
                  targetPulses := BitVec.ofInt 16 t, direction := .stop, stopReason := .target, overshootPulses := 0 }
              else m
            else if dir = m.direction then { m with targetPulses := BitVec.ofInt 16 t }
            else
              { m with
                direction := dir, lastDir := dir, targetPulses := BitVec.ofInt 16 t,
                ignoreCount := s.cfg.motor.ignoreImpulses, pwmDuty := s.cfg.motor.pwmStart, stopReason := .none,
                wdtArmed := true, wdtDeadline := s.sys.now + 8 * s.cfg.motor.wdtRun.toNat,
                lastPulseTime := s.sys.now }
          sys := awake }

/-- `MOT_UPDATE_CAL`: reason 0 resets position and calibration and clears the motor error and the stop task; any other
reason counts the settle delay, starts the drive to the open endstop, or has no effect (rules R301, R307, R311). -/
def Obligations.UpdateCalResult : Prop :=
  ∀ (s : State) (r : U8), AcceptsCommand s →
    let m := s.mot
    let awake := { s.sys with sleeping := false }
    if r = 0 then
      exec (.motUpdateCal r) s =
        .next
          { s with
            ctl := { s.ctl with errorFlags := s.ctl.errorFlags &&& ~~~0x10 }
            mot :=
              { m with
                direction := .stop, lastDir := .stop, wdtArmed := false, stopReason := .none, positionPulses := 0,
                targetPulses := 0, maxPulses := 0, calibrationStep := .uncalibrated, settleCount := 0,
                overshootPulses := 0, ignoreCount := 0 }
            sys := { awake with taskFlags := s.sys.taskFlags &&& ~~~0x02 } }
    else if m.calibrationStep = .uncalibrated then
      ∃ n : U8, n.toNat = min (m.settleCount.toNat + 1) 255 ∧
        exec (.motUpdateCal r) s =
          .next
            { s with
              mot :=
                if s.cfg.motor.settleTicks.toNat ≤ n.toNat then
                  { m with calibrationStep := .pendingStart, settleCount := 0 }
                else { m with settleCount := n }
              sys := awake }
    else if m.calibrationStep = .pendingStart then
      exec (.motUpdateCal r) s =
        .next
          { s with
            mot :=
              { m with
                positionPulses := 0, calibrationStep := .toOpen, direction := .opening, lastDir := .opening,
                targetPulses := s.cfg.motor.calLarge, ignoreCount := s.cfg.motor.ignoreImpulses,
                pwmDuty := s.cfg.motor.pwmStart, stopReason := .none, wdtArmed := true,
                wdtDeadline := s.sys.now + 8 * s.cfg.motor.wdtCal.toNat, lastPulseTime := s.sys.now }
            sys := awake }
    else exec (.motUpdateCal r) s = .next { s with sys := awake }

/-- `MOT_GET_POS_PERCENT` puts the truncated percentage on `res`, 255 while the position is unknown; the port
`posPercent` shows the same value (rules R44, R71, R302). That the operation writes `res`, and that the port is a function
of the state, shown before the operation too, is the model's reading (log entry 17). -/
def Obligations.PosPercentResult : Prop :=
  ∀ s : State, AcceptsCommand s →
    ∃ v : U16,
      (v.toNat : Int) =
        (if s.mot.calibrationStep ≠ .calibrated ∨ s.mot.maxPulses = 0 then 255
         else clamp (tdiv (max s.mot.positionPulses.toInt 0 * 100) s.mot.maxPulses.toNat) 0 100) ∧
      (posPercentPort s).toNat = v.toNat ∧
      exec .motGetPosPercent s = .next { s with res := v, sys := { s.sys with sleeping := false } }

/-- `MOT_TIMER_PULSE`: the duty moves by the limited correction and is clamped (rule R304). -/
def Obligations.TimerPulseResult : Prop :=
  ∀ (s : State) (q : U16), AcceptsInternal s →
    let c := s.cfg.motor
    let delta :=
      clamp (tdiv ((q.toNat : Int) - c.targetPeriod.toNat) c.pwmDiv.toNat) (-(c.pwmMaxStep.toNat : Int))
        c.pwmMaxStep.toNat
    ∃ d : U8,
      (d.toNat : Int) = clamp ((s.mot.pwmDuty.toNat : Int) + delta) c.pwmMin.toNat c.pwmMax.toNat ∧
      exec (.motTimerPulse q) s = .next { s with mot := { s.mot with pwmDuty := d } }

/-- `MOT_TIMER_STOP` in the calibration phases: the open endstop adopts the persisted distance or starts the drive to the
close endstop, the close endstop measures the travel and persists it, anything else is a calibration error (rule R313). -/
def Obligations.TimerStopCalibration : Prop :=
  ∀ s : State, AcceptsTask s .motorStop →
    let m := { s.mot with lastDir := .stop, stopReason := .none }
    let y := { s.sys with taskFlags := s.sys.taskFlags &&& ~~~0x02 }
    let failed : State :=
      { s with
        ctl := { s.ctl with errorFlags := s.ctl.errorFlags ||| 0x10 }
        mot := { m with calibrationStep := .error }
        sys := y }
    let hint := s.nv.persistedMaxPulses
    let dist : Int := -s.mot.positionPulses.toInt
    (s.mot.calibrationStep = .toOpen →
      exec .motTimerStop s =
        .next
          (if s.mot.stopReason = .timeout ∧ s.mot.lastDir = .opening then
            if 0 < hint.toNat ∧ hint.toNat ≤ 32767 then
              { s with
                mot :=
                  { m with
                    maxPulses := hint, positionPulses := hint, targetPulses := hint, calibrationStep := .calibrated }
                sys := y }
            else
              { s with
                mot :=
                  { m with
                    positionPulses := 0, calibrationStep := .toClose, direction := .closing, lastDir := .closing,
                    targetPulses := -s.cfg.motor.calLarge, ignoreCount := s.cfg.motor.ignoreImpulses,
                    pwmDuty := s.cfg.motor.pwmStart, wdtArmed := true,
                    wdtDeadline := s.sys.now + 8 * s.cfg.motor.wdtCal.toNat, lastPulseTime := s.sys.now }
                sys := y }
          else failed)) ∧
    (s.mot.calibrationStep = .toClose →
      exec .motTimerStop s =
        .next
          (if s.mot.stopReason = .timeout ∧ s.mot.lastDir = .closing ∧ dist > s.cfg.motor.minImpulses.toNat then
            { s with
              mot :=
                { m with
                  maxPulses := BitVec.ofInt 16 dist, positionPulses := 0, targetPulses := 0,
                  calibrationStep := .calibrated }
              sys := y
              nv := { persistedMaxPulses := BitVec.ofInt 16 dist } }
          else failed))

/-- `MOT_TIMER_STOP` outside calibration: the move ends; after a timeout within the tolerance a move to 0 re-zeroes the
count, beyond it a closing move is a calibration error and an opening one a motor error (rules R313, R314). -/
def Obligations.TimerStopMove : Prop :=
  ∀ s : State, AcceptsTask s .motorStop → s.mot.calibrationStep ≠ .toOpen → s.mot.calibrationStep ≠ .toClose →
    let m := { s.mot with lastDir := .stop, stopReason := .none }
    let y := { s.sys with taskFlags := s.sys.taskFlags &&& ~~~0x02 }
    let near := (s.mot.positionPulses.toInt - s.mot.targetPulses.toInt).natAbs ≤ s.cfg.motor.tol.toNat
    let ended : State := { s with mot := m, sys := y }
    exec .motTimerStop s =
      .next
        (if s.mot.calibrationStep ≠ .calibrated ∨ s.mot.stopReason ≠ .timeout then ended
         else if near then
          if s.mot.targetPulses = 0 ∧ s.mot.lastDir = .closing then { ended with mot := { m with positionPulses := 0 } }
          else ended
         else if s.mot.lastDir = .closing then
          { ended with
            ctl := { s.ctl with errorFlags := s.ctl.errorFlags ||| 0x10 }
            mot := { m with calibrationStep := .error } }
         else if s.mot.lastDir = .opening then
          { ended with ctl := { s.ctl with errorFlags := s.ctl.errorFlags ||| 0x10 } }
         else ended)

/-- `EV_EYE_EDGE` rejected, in any drive state: a repeated level or a phase that is too short changes no motor field.
Accepted without a drive running, it updates the filter, and while coasting it counts a pulse and an overshoot and re-arms
the watchdog (rules R303, R306, R311). -/
def Obligations.EyeEdgeStopped : Prop :=
  ∀ (s : State) (level : BitVec 1), AcceptsEvent s →
    let m := { s.mot with eyeLevel := level, eyeLastTime := s.sys.now }
    let woken := { s.sys with gie := true, inIsr := false, sleeping := false }
    let thr := if level = 1 then s.cfg.motor.eyeLow.toNat else s.cfg.motor.eyeHigh.toNat
    let rejected := level = s.mot.eyeLevel ∨ (s.sys.now : Int) - s.mot.eyeLastTime < 2 * thr
    let reload :=
      if s.mot.calibrationStep = .pendingStart ∨ s.mot.calibrationStep = .toOpen ∨ s.mot.calibrationStep = .toClose then
        s.cfg.motor.wdtCal.toNat
      else s.cfg.motor.wdtRun.toNat
    (rejected → exec (.evEyeEdge level) s = .next { s with sys := woken }) ∧
    (¬ rejected → s.mot.direction = .stop →
      ∃ o : U8, o.toNat = min (s.mot.overshootPulses.toNat + 1) 255 ∧
        exec (.evEyeEdge level) s =
          .next
            { s with
              mot :=
                if s.mot.wdtArmed = false then m
                else
                  { m with
                    positionPulses :=
                      match s.mot.lastDir with
                      | .opening => s.mot.positionPulses + 1
                      | .closing => s.mot.positionPulses - 1
                      | .stop => s.mot.positionPulses
                    overshootPulses := o
                    wdtDeadline := s.sys.now + reload }
              sys := woken })

/-- `EV_EYE_EDGE` accepted while driving: the position moves, the watchdog is re-armed, the pulse is ignored by the
regulation or regulates the duty, and the drive is cut at its target less the last overshoot (rules R303, R304, R308).
The last pulse lies in the past (an invariant: `MotorInvKept`). Rejected edges while driving: `EyeEdgeStopped`. -/
def Obligations.EyeEdgeDriving : Prop :=
  ∀ (s : State) (level : BitVec 1), AcceptsEvent s → s.mot.direction ≠ .stop → s.mot.lastPulseTime ≤ s.sys.now →
    let thr := if level = 1 then s.cfg.motor.eyeLow.toNat else s.cfg.motor.eyeHigh.toNat
    level ≠ s.mot.eyeLevel → ¬ (s.sys.now : Int) - s.mot.eyeLastTime < 2 * thr →
    let c := s.cfg.motor
    let reload :=
      if s.mot.calibrationStep = .pendingStart ∨ s.mot.calibrationStep = .toOpen ∨ s.mot.calibrationStep = .toClose then
        c.wdtCal.toNat
      else c.wdtRun.toNat
    let pos :=
      match s.mot.lastDir with
      | .opening => s.mot.positionPulses + 1
      | .closing => s.mot.positionPulses - 1
      | .stop => s.mot.positionPulses
    let q : Int := min ((s.sys.now : Int) - s.mot.lastPulseTime) 65535
    let delta := clamp (tdiv (q - c.targetPeriod.toNat) c.pwmDiv.toNat) (-(c.pwmMaxStep.toNat : Int)) c.pwmMaxStep.toNat
    let ignored := 0 < s.mot.ignoreCount.toNat
    let overshoot : Int := s.mot.overshootPulses.toNat
    let reached :=
      (s.mot.direction = .opening ∧ pos.toInt ≥ s.mot.targetPulses.toInt - overshoot) ∨
        (s.mot.direction = .closing ∧ pos.toInt ≤ s.mot.targetPulses.toInt + overshoot)
    ∃ d : U8,
      (d.toNat : Int) =
        (if ignored then (s.mot.pwmDuty.toNat : Int)
         else clamp ((s.mot.pwmDuty.toNat : Int) + delta) c.pwmMin.toNat c.pwmMax.toNat) ∧
      exec (.evEyeEdge level) s =
        .next
          { s with
            mot :=
              { s.mot with
                eyeLevel := level
                eyeLastTime := s.sys.now
                positionPulses := pos
                lastPulseTime := s.sys.now
                ignoreCount := if ignored then s.mot.ignoreCount - 1 else s.mot.ignoreCount
                wdtDeadline := s.sys.now + (if ignored then 8 * reload else reload)
                pwmDuty := d
                direction := if reached then .stop else s.mot.direction
                stopReason := if reached then .target else s.mot.stopReason
                overshootPulses := if reached then 0 else s.mot.overshootPulses }
            sys := { s.sys with gie := true, inIsr := false, sleeping := false } }

/-- `EV_MOTOR_WDT` disarms the watchdog, cuts a running drive with reason TIMEOUT in the same step, so that both motor
ports are off, and posts the stop task (rules R45, R305). -/
def Obligations.WatchdogResult : Prop :=
  ∀ s : State, AcceptsEvent s → s.mot.wdtArmed = true → s.mot.wdtDeadline ≤ s.sys.now →
    ∃ t, exec .evMotorWdt s = .next t ∧ hbPort t = .stop ∧ pwmPort t = 0 ∧
      t =
        { s with
          mot :=
            { s.mot with
              wdtArmed := false
              direction := .stop
              stopReason := if s.mot.direction ≠ .stop then .timeout else s.mot.stopReason }
          sys :=
            { s.sys with taskFlags := s.sys.taskFlags ||| 0x02, gie := true, inIsr := false, sleeping := false } }

/-! ## The bus -/

/-- `SPI_TRANSFER16`: the pins go through select, sixteen clocks with the bits of the word most significant first, and the
deselect pulse; the word and its response enter the history, the response is on `res`, and bit `15 - k` of it is the
level of `SDO` at clock `k` (rules R103, R400). -/
def Obligations.SpiTransferResult : Prop :=
  (∀ (s : State) (w : U16), AcceptsCommand s →
    ∃ u r, Sends [w] s u ∧ u.hist = s.hist ++ [.spiWord w r] ∧
      exec (.spiTransfer16 w) s = .next { u with res := r, sys := { s.sys with sleeping := false } } ∧
      (16 ≤ s.env.ports.sdo.length →
        (∀ k, k < 16 → r.getLsbD (15 - k) = s.env.ports.sdo.getD k false) ∧
        u.env.ports.sdo = s.env.ports.sdo.drop 16 ∧ u.env.draws = s.env.draws)) ∧
  (∀ (p : SpiPins) (w : U16),
    pinTrace p (spiPinChanges w) =
      [{ p with nSel := false }]
        ++ (List.range 16).flatMap (fun k =>
            [{ nSel := false, sck := if k = 0 then p.sck else false, sdi := w.getLsbD (15 - k) },
             { nSel := false, sck := true, sdi := w.getLsbD (15 - k) },
             { nSel := false, sck := false, sdi := w.getLsbD (15 - k) }])
        ++ [{ nSel := true, sck := false, sdi := w.getLsbD 0 }, { nSel := false, sck := false, sdi := w.getLsbD 0 }])

/-- Each of the 17 RFM12 command words (`RFM12.STATUS_READ`, `CONFIG`, `POWER_MGMT`, `FREQUENCY`, `DATA_RATE`,
`RX_CONTROL`, `DATA_FILTER`, `FIFO_RESET`, `SYNC_PATTERN`, `FIFO_READ`, `AFC`, `TX_CONFIG`, `PLL`, `TX_WRITE`,
`WAKEUP_TIMER`, `LOW_DUTY_CYCLE`, `LBD_CLOCK_DIV`) goes over the bus as its 16 bits and nothing else of the block changes
(rules R136, R137, R400). That a command word is issued as a transfer is the model's reading (log entry 8). -/
def Obligations.CommandWordsSent : Prop :=
  ∀ (i : Instr) (s : State), i.isRfm12 = true → AcceptsCommand s →
    ∃ w u r, encode i = .rfm12 w ∧ Sends [w] s u ∧ u.hist = s.hist ++ [.spiWord w r] ∧
      exec i s = .next { u with res := r, sys := { s.sys with sleeping := false } }

/-- `RFM_INIT` sends the words W1 to W10, and W11 where enabled, in the documented order (rules R403, R404, R408). -/
def Obligations.RadioInitResult : Prop :=
  ∀ s : State, AcceptsCommand s →
    let c := s.cfg.init
    let baud := s.cfg.radio.rfmBaud.toNat
    let bw := if baud < 20000 then c.bwTier0 else if baud < 100000 then c.bwTier1 else c.bwTier2
    let md := if baud < 20000 then c.modTier0 else if baud < 100000 then c.modTier1 else c.modTier2
    ∃ u,
      Sends
        ([0x0000, 0x8000 ||| c.cfgBits, 0xA000 ||| c.freq, 0xC600 ||| c.drate,
            0x9000 ||| c.p16 <<< 10 ||| c.vdi <<< 8 ||| bw <<< 5 ||| c.lna <<< 3 ||| c.rssi,
            0xC228 ||| (c.dfilt &&& 0xD7), 0xCA00 ||| c.fifoBits, 0xC400 ||| c.afcBits,
            0x9800 ||| c.mp <<< 8 ||| md <<< 4 ||| c.pwr, 0xCC00 ||| (c.pll &&& 0x7F)]
          ++ if c.lbdEnable then [0xC000 ||| (c.lbd &&& 0xEF)] else [])
        s u ∧
      exec .rfmInit s = .next { u with sys := { s.sys with sleeping := false } }

/-! ## Frame machine -/

/-- `FRM_STOP` in every mode: the idle word unless the radio is off, mode `stop`, edge source disabled (rule R450). -/
def Obligations.FrameStopResult : Prop :=
  ∀ s : State, AcceptsCommand s →
    ∃ u, Sends (if s.cfg.radio.rfmAddr = 0 then [] else [s.cfg.radio.pmIdle]) s u ∧
      exec .frmStop s =
        .next
          { u with
            frm := { s.frm with mode := .stop }
            sys := { s.sys with rfmIrqEn := false, sleeping := false } }

/-- `FRM_BUF_WRITE`: a fault while the interrupt owns the buffer or beyond the capacity; else that byte and no other is
written (rules R13, R102, R110, R451). -/
def Obligations.BufferWriteResult : Prop :=
  ∀ (s : State) (i b : U8), AcceptsCommand s →
    if s.frm.mode = .tx ∨ s.frm.mode = .rx ∨ s.frm.mode = .rxOwf then
      exec (.frmBufWrite i b) s = .next { s with sys := { s.sys with fault := some (.bufOwner, i) } }
    else if s.cfg.radio.bufCap.toNat ≤ i.toNat then
      exec (.frmBufWrite i b) s = .next { s with sys := { s.sys with fault := some (.bufRange, i) } }
    else
      ∃ t, exec (.frmBufWrite i b) s = .next t ∧
        t =
          { s with
            frm := { s.frm with frameBuffer := t.frm.frameBuffer }
            sys := { s.sys with sleeping := false } } ∧
        ∀ a, t.bufByte a = if a = i.toNat then some b else s.bufByte a

/-- `FRM_BUF_READ`: a fault beyond the capacity, beyond the readable limit or of an unwritten byte; else the byte on `res`
(rules R102, R110, R458). -/
def Obligations.BufferReadResult : Prop :=
  ∀ (s : State) (i : U8), AcceptsCommand s →
    if s.cfg.radio.bufCap.toNat ≤ i.toNat then
      exec (.frmBufRead i) s = .next { s with sys := { s.sys with fault := some (.bufRange, i) } }
    else if (s.frm.mode = .rx ∨ s.frm.mode = .rxOwf) ∧ s.frm.framePos.toNat ≤ i.toNat then
      exec (.frmBufRead i) s = .next { s with sys := { s.sys with fault := some (.bufOwner, i) } }
    else
      (s.bufByte i.toNat = none →
        exec (.frmBufRead i) s = .next { s with sys := { s.sys with fault := some (.unwritten, i) } }) ∧
      (∀ b, s.bufByte i.toNat = some b →
        exec (.frmBufRead i) s = .next { s with res := b.setWidth 16, sys := { s.sys with sleeping := false } })

/-- `FRM_START_TX`: refused outside `stop`, no effect with the radio off, a fault for a bad size or the lowest unwritten
byte, else the frame waits in `start_tx` (rule R452). That the mode is checked before `RFM_ADDR = 0`, so that a disabled
radio refuses too, is the model's choice (log entry 16). -/
def Obligations.StartTransmitResult : Prop :=
  ∀ (s : State) (n : U8), AcceptsCommand s →
    if s.frm.mode ≠ .stop then exec (.frmStartTx n) s = .next (markRefused s .mode)
    else if s.cfg.radio.rfmAddr = 0 then exec (.frmStartTx n) s = .next { s with sys := { s.sys with sleeping := false } }
    else if n = 0 ∨ s.cfg.radio.bufCap.toNat < n.toNat then
      exec (.frmStartTx n) s = .next { s with sys := { s.sys with fault := some (.txSize, n) } }
    else
      (∀ k : U8, k.toNat < n.toNat → s.bufByte k.toNat = none → (∀ j, j < k.toNat → s.bufByte j ≠ none) →
        exec (.frmStartTx n) s = .next { s with sys := { s.sys with fault := some (.unwritten, k) } }) ∧
      ((∀ k, k < n.toNat → s.bufByte k ≠ none) →
        exec (.frmStartTx n) s =
          .next
            { s with
              frm := { s.frm with frameSize := n, framePos := 0, mode := .startTx }
              sys := { s.sys with sleeping := false } })

/-- `FRM_TX_SLOT`: a waiting frame whose second is the device's address starts: the transmit word, mode `tx`, the edge
source enabled; otherwise nothing (rules R453, R461). -/
def Obligations.TransmitSlotResult : Prop :=
  ∀ s : State, AcceptsInternal s →
    if s.frm.mode = .startTx ∧ s.cfg.radio.rfmAddr ≠ 0 ∧ s.env.ports.second.val = s.cfg.radio.rfmAddr.toNat then
      ∃ u, Sends [s.cfg.radio.pmTx] s u ∧
        exec .frmTxSlot s =
          .next { u with frm := { s.frm with mode := .tx }, sys := { s.sys with rfmIrqEn := true } }
    else exec .frmTxSlot s = .next s

/-- `FRM_TX_DONE`: refused outside `tx_done` or for an operand above 1; 0 sends the idle word and stops, 1 goes on to
reception (rules R454, R455). That the mode is checked before the operand is the model's choice (log entry 16). -/
def Obligations.TransmitDoneResult : Prop :=
  ∀ (s : State) (k : U8), AcceptsCommand s →
    let r := s.cfg.radio
    if s.frm.mode ≠ .txDone then exec (.frmTxDone k) s = .next (markRefused s .mode)
    else if 1 < k.toNat then exec (.frmTxDone k) s = .next (markRefused s .badArg)
    else if k = 1 then
      ∃ u, Sends [r.pmIdle, r.pmRx, r.fifoClear, r.fifoArm] s u ∧
        exec (.frmTxDone k) s =
          .next
            { u with
              frm := { s.frm with mode := .rx, framePos := 0 }
              sys := { s.sys with rfmIrqEn := true, sleeping := false } }
    else
      ∃ u, Sends [r.pmIdle] s u ∧
        exec (.frmTxDone k) s =
          .next
            { u with
              frm := { s.frm with mode := .stop }
              sys := { s.sys with rfmIrqEn := false, sleeping := false } }

/-- `FRM_START_RX` and `FRM_RX_RESET`: their modes checked, their words sent, and reception from index 0 with the edge
source enabled; `FRM_START_RX` has no effect with the radio off (rules R455, R457, R461). That it checks its mode before
`RFM_ADDR = 0` is the model's choice (log entry 16). -/
def Obligations.ReceiveResult : Prop :=
  ∀ s : State, AcceptsCommand s →
    let r := s.cfg.radio
    let listen := fun u : State =>
      { u with
        frm := { s.frm with mode := .rx, framePos := 0 }
        sys := { s.sys with rfmIrqEn := true, sleeping := false } }
    (if s.frm.mode ≠ .stop then exec .frmStartRx s = .next (markRefused s .mode)
     else if r.rfmAddr = 0 then exec .frmStartRx s = .next { s with sys := { s.sys with sleeping := false } }
     else ∃ u, Sends [r.pmRx, r.fifoClear, r.fifoArm] s u ∧ exec .frmStartRx s = .next (listen u)) ∧
    (if s.frm.mode = .rx ∨ s.frm.mode = .rxOwf then
      ∃ u, Sends [r.fifoClear, r.fifoArm] s u ∧ exec .frmRxReset s = .next (listen u)
     else exec .frmRxReset s = .next (markRefused s .mode))

/-- `FRM_TASK_ACK` clears the flag and puts the mode and the cursor on `res`; each of the three task operations is refused
while its flag is not pending (rules R459, R505). That they are refused with the same reason while the loop sleeps, which
`SystemInv` excludes, is the model's choice (log entry 14). -/
def Obligations.TaskAckResult : Prop :=
  ∀ s : State, AcceptsCommand s →
    (s.sys.taskFlags &&& 0x01 = 0 ∨ s.sys.sleeping = true → exec .ctlTick s = .next (markRefused s .notPending)) ∧
    (s.sys.taskFlags &&& 0x02 = 0 ∨ s.sys.sleeping = true → exec .motTimerStop s = .next (markRefused s .notPending)) ∧
    (if s.sys.taskFlags &&& 0x04 = 0 ∨ s.sys.sleeping = true then
      exec .frmTaskAck s = .next (markRefused s .notPending)
     else
      ∃ v : U16,
        v.toNat =
          (match s.frm.mode with
            | .stop => 0
            | .startTx => 1
            | .tx => 2
            | .txDone => 3
            | .rx => 4
            | .rxOwf => 5) * 256 + s.frm.framePos.toNat ∧
        exec .frmTaskAck s =
          .next { s with res := v, sys := { s.sys with taskFlags := s.sys.taskFlags &&& ~~~0x04 } })

/-- `EV_RFM_EDGE` in `tx`: the next byte goes to the transmit register and the cursor moves; the last byte ends the frame,
signals the task and leaves the source disabled (rules R401, R456). The cursor is below the frame size (an invariant:
`FrameInvKept`). -/
def Obligations.TransmitEdgeResult : Prop :=
  ∀ (s : State) (b : U8), AcceptsEvent s → s.sys.rfmIrqEn = true → s.env.ports.rfmReady = true → s.frm.mode = .tx →
    s.frm.framePos.toNat < s.frm.frameSize.toNat → s.bufByte s.frm.framePos.toNat = some b →
    let last := s.frm.frameSize.toNat ≤ s.frm.framePos.toNat + 1
    ∃ u, Sends [0xB800 ||| b.setWidth 16] s u ∧
      exec .evRfmEdge s =
        .next
          { u with
            frm := { s.frm with framePos := s.frm.framePos + 1, mode := if last then .txDone else .tx }
            sys :=
              { s.sys with
                rfmIrqEn := if last then false else true
                taskFlags := if last then s.sys.taskFlags ||| 0x04 else s.sys.taskFlags
                gie := true
                inIsr := false
                sleeping := false } }

/-- `EV_RFM_EDGE` while receiving. In `rx` below the capacity the byte of the FIFO response is stored at the cursor and
nowhere else, the cursor moves, and a full buffer overflows; in `rx_owf` a byte is read and dropped, the buffer and the
cursor stay. Either signals the task and enables the source again (rules R402, R456). -/
def Obligations.ReceiveEdgeResult : Prop :=
  ∀ s : State, AcceptsEvent s → s.sys.rfmIrqEn = true → s.env.ports.rfmReady = true →
    let y :=
      { s.sys with
        rfmIrqEn := true, taskFlags := s.sys.taskFlags ||| 0x04, gie := true, inIsr := false, sleeping := false }
    (s.frm.mode = .rx → s.frm.framePos.toNat < s.cfg.radio.bufCap.toNat →
      ∃ u t r, Sends [0xB000] s u ∧ u.hist = s.hist ++ [.spiWord 0xB000 r] ∧ exec .evRfmEdge s = .next t ∧
        t =
          { u with
            frm :=
              { s.frm with
                frameBuffer := t.frm.frameBuffer
                framePos := s.frm.framePos + 1
                mode := if s.cfg.radio.bufCap.toNat ≤ s.frm.framePos.toNat + 1 then .rxOwf else .rx }
            sys := y } ∧
        ∀ a, t.bufByte a = if a = s.frm.framePos.toNat then some (r.setWidth 8) else s.bufByte a) ∧
    (s.frm.mode = .rxOwf → ∃ u, Sends [0xB000] s u ∧ exec .evRfmEdge s = .next { u with sys := y })

/-- Every change of `mode` is a row of the transition table with its condition, or reset (rules R460, R600). -/
def Obligations.ModeTransitions : Prop :=
  ∀ (i : Instr) (s t : State), exec i s = .next t → t.frm.mode ≠ s.frm.mode →
    let a := s.frm.mode
    let b := t.frm.mode
    i = .sysReset ∨
    (i = .frmStop ∧ b = .stop) ∨
    (∃ n, i = .frmStartTx n ∧ a = .stop ∧ b = .startTx ∧ s.cfg.radio.rfmAddr ≠ 0 ∧ 1 ≤ n.toNat ∧
      n.toNat ≤ s.cfg.radio.bufCap.toNat ∧ ∀ k, k < n.toNat → s.bufByte k ≠ none) ∨
    ((i = .frmTxSlot ∨ i = .ctlTick) ∧ a = .startTx ∧ b = .tx ∧ s.cfg.radio.rfmAddr ≠ 0 ∧
      s.env.ports.second.val = s.cfg.radio.rfmAddr.toNat) ∨
    (i = .evRfmEdge ∧ a = .tx ∧ b = .txDone ∧ t.frm.frameSize.toNat ≤ t.frm.framePos.toNat) ∨
    (i = .frmTxDone 1 ∧ a = .txDone ∧ b = .rx) ∨
    (i = .frmTxDone 0 ∧ a = .txDone ∧ b = .stop) ∨
    (i = .frmStartRx ∧ a = .stop ∧ b = .rx ∧ s.cfg.radio.rfmAddr ≠ 0) ∨
    (i = .evRfmEdge ∧ a = .rx ∧ b = .rxOwf ∧ s.cfg.radio.bufCap.toNat ≤ t.frm.framePos.toNat) ∨
    (i = .frmRxReset ∧ (a = .rx ∨ a = .rxOwf) ∧ b = .rx)

/-- Overflow: from the start of reception, after `BUF_CAP` edges the mode is `rx_owf` with the cursor at `BUF_CAP`, and
every later edge leaves the buffer as it is (rule R463 (a)). -/
def Obligations.ReceiveOverflow : Prop :=
  ∀ s : State, AcceptsEvent s → s.sys.rfmIrqEn = true → s.env.ports.rfmReady = true → s.frm.mode = .rx →
    s.frm.framePos = 0 →
    ∃ t, repeatOp .evRfmEdge s.cfg.radio.bufCap.toNat s = some t ∧ t.frm.mode = .rxOwf ∧
      t.frm.framePos = s.cfg.radio.bufCap ∧
      ∀ n, ∃ u, repeatOp .evRfmEdge n t = some u ∧ u.frm = t.frm

/-- The interrupts that may nest inside the edge handler commute with it: either order has the same end state
(rule R112). -/
def Obligations.NestedEventsCommute : Prop :=
  ∀ (s : State) (i : Instr), AcceptsEvent s → s.sys.rfmIrqEn = true → s.env.ports.rfmReady = true →
    (s.frm.mode = .tx → s.bufByte s.frm.framePos.toNat ≠ none) →
    (s.frm.mode = .rx → s.frm.framePos.toNat < s.cfg.radio.bufCap.toNat) →
    (i = .evTmrTick ∨ i = .evRtcSecond ∨ i = .evMotorWdt ∨ ∃ l, i = .evEyeEdge l) →
    ∃ a b t, exec .evRfmEdge s = .next a ∧ exec i a = .next t ∧ exec i s = .next b ∧ exec .evRfmEdge b = .next t ∧
      t.sys.fault = none

/-! ## Invariants -/

/-- Every step keeps the motor invariants (rules R66, R306, R315). -/
def Obligations.MotorInvKept : Prop := ∀ s t : State, MotorInv s → step s = .next t → MotorInv t

/-- Every step keeps the frame machine's invariants (rules R51, R452, R461). -/
def Obligations.FrameInvKept : Prop := ∀ s t : State, FrameInv s → step s = .next t → FrameInv t

/-- Every step keeps the system invariants (rules R38, R54, R508, R516, R525, R602). -/
def Obligations.SystemInvKept : Prop := ∀ s t : State, SystemInv s → step s = .next t → SystemInv t

/-- Every step keeps the controller's ranges (rules R36, R222, R226, R253). -/
def Obligations.ControlInvKept : Prop := ∀ s t : State, ControlInv s → step s = .next t → ControlInv t

/-- The reset state has all the invariants. Its configuration is the model's choice (log entry 1). -/
def Obligations.ResetHasInvariants : Prop :=
  MotorInv State.reset ∧ FrameInv State.reset ∧ SystemInv State.reset ∧ ControlInv State.reset

end
end

