-- ==== Sys2Proof/Laws/Decode.lean ====
section
/-! SUPPORT. What the fields of an encoded word are. -/

namespace Sys2Proof

/-- A field that lies in the low part of a word. -/
theorem extract_append_lo {n m k l : Nat} (a : BitVec n) (b : BitVec m) (h : k + l ≤ m) :
    (a ++ b).extractLsb' k l = b.extractLsb' k l := by
  apply BitVec.eq_of_getLsbD_eq
  intro i hi
  rw [BitVec.getLsbD_extractLsb', BitVec.getLsbD_append, BitVec.getLsbD_extractLsb']
  have : k + i < m := by omega
  simp [this]

/-- A field that lies in the high part of a word. -/
theorem extract_append_hi {n m k l : Nat} (a : BitVec n) (b : BitVec m) (h : m ≤ k) :
    (a ++ b).extractLsb' k l = a.extractLsb' (k - m) l := by
  apply BitVec.eq_of_getLsbD_eq
  intro i hi
  rw [BitVec.getLsbD_extractLsb', BitVec.getLsbD_append, BitVec.getLsbD_extractLsb']
  have h1 : ¬ k + i < m := by omega
  have h2 : k + i - m = k - m + i := by omega
  simp [h1, h2]

@[simp] theorem cmdOp_append (op : U8) (v : U16) : cmdOp (op ++ v) = op := by
  rw [cmdOp, extract_append_hi op v (Nat.le_refl 16)]
  simp

@[simp] theorem cmdArg_append (op : U8) (v : U16) : cmdArg (op ++ v) = v := by
  rw [cmdArg, extract_append_lo op v (by decide)]
  simp

@[simp] theorem cmdArgH_append (op h l : U8) : cmdArgH (op ++ (h ++ l)) = h := by
  rw [cmdArgH, extract_append_lo op (h ++ l) (by decide), extract_append_hi h l (Nat.le_refl 8)]
  simp

@[simp] theorem cmdArgL_append (op h l : U8) : cmdArgL (op ++ (h ++ l)) = l := by
  rw [cmdArgL, extract_append_lo op (h ++ l) (by decide), extract_append_lo h l (by decide)]
  simp

@[simp] theorem cmdOp_wordNone (op : U8) : cmdOp (wordNone op) = op := cmdOp_append op 0
@[simp] theorem cmdOp_wordByte (op b : U8) : cmdOp (wordByte op b) = op := cmdOp_append op (0 ++ b)
@[simp] theorem cmdOp_wordU16 (op : U8) (v : U16) : cmdOp (wordU16 op v) = op := cmdOp_append op v
@[simp] theorem cmdOp_wordIndexByte (op i b : U8) : cmdOp (wordIndexByte op i b) = op := cmdOp_append op (i ++ b)
@[simp] theorem cmdOp_wordBit (op : U8) (b : BitVec 1) : cmdOp (wordBit op b) = op := cmdOp_append op _
@[simp] theorem cmdArg_wordNone (op : U8) : cmdArg (wordNone op) = 0 := cmdArg_append op 0
@[simp] theorem cmdArgH_wordByte (op b : U8) : cmdArgH (wordByte op b) = 0 := cmdArgH_append op 0 b
@[simp] theorem cmdArgL_wordByte (op b : U8) : cmdArgL (wordByte op b) = b := cmdArgL_append op 0 b
@[simp] theorem cmdArg_wordU16 (op : U8) (v : U16) : cmdArg (wordU16 op v) = v := cmdArg_append op v
@[simp] theorem cmdArgH_wordIndexByte (op i b : U8) : cmdArgH (wordIndexByte op i b) = i := cmdArgH_append op i b
@[simp] theorem cmdArgL_wordIndexByte (op i b : U8) : cmdArgL (wordIndexByte op i b) = b := cmdArgL_append op i b

end Sys2Proof
end

