-- ==== Sys2Proof/Laws/Load.lean ====
section
/-! SUPPORT. Loading a configuration: `loadedCfg` is what `Loads` describes, and the description fixes every field. -/

namespace Sys2Proof.Machine

theorem inBounds_toNat {w : Nat} (lo hi dflt raw : BitVec w) :
    ((inBounds lo hi dflt raw).toNat : Int) =
      if (lo.toNat : Int) ≤ raw.toNat ∧ (raw.toNat : Int) ≤ hi.toNat then (raw.toNat : Int) else dflt.toNat := by
  unfold inBounds; simp only [Int.ofNat_le]; split <;> rfl

theorem inBoundsSigned_toInt {w : Nat} (lo hi dflt raw : BitVec w) :
    (inBoundsSigned lo hi dflt raw).toInt =
      if lo.toInt ≤ raw.toInt ∧ raw.toInt ≤ hi.toInt then raw.toInt else dflt.toInt := by
  unfold inBoundsSigned; split <;> rfl

theorem inBounds_natCast (lo hi dflt raw : Nat) :
    ((if lo ≤ raw ∧ raw ≤ hi then raw else dflt : Nat) : Int) =
      if (lo : Int) ≤ raw ∧ (raw : Int) ≤ hi then (raw : Int) else dflt := by
  simp only [Int.ofNat_le]; split <;> rfl

theorem loadedCfg_loads (old : Cfg) (l : CfgLoad) : Loads old l (loadedCfg old l) where
  numbers := by
    simp only [cfgNumbers, List.cons_append, List.nil_append, List.forall_mem_cons]
    and_intros
    all_goals first
      | exact inBounds_toNat ..
      | exact inBoundsSigned_toInt ..
      | exact inBounds_natCast ..
      | exact fun _ h => nomatch h
  truths := by
    simp only [cfgTruths, List.forall_mem_cons]
    exact ⟨rfl, rfl, rfl, rfl, rfl, fun _ h => nomatch h⟩
  strategy := rfl

theorem loads_unique {old : Cfg} {l : CfgLoad} {a b : Cfg} (ha : Loads old l a) (hb : Loads old l b) : a = b := by
  have hn : ∀ f ∈ cfgNumbers, f a = f b := fun f hf => (ha.numbers f hf).trans (hb.numbers f hf).symm
  have ht : ∀ f ∈ cfgTruths, f a = f b := fun f hf => (ha.truths f hf).trans (hb.truths f hf).symm
  have hs := ha.strategy.trans hb.strategy.symm
  clear ha hb
  obtain ⟨⟨⟩, ⟨⟩, ⟨⟩, ⟨⟩, ⟨⟩, ⟨⟩, ⟨⟩, ⟨⟩, ⟨⟩⟩ := a
  obtain ⟨⟨⟩, ⟨⟩, ⟨⟩, ⟨⟩, ⟨⟩, ⟨⟩, ⟨⟩, ⟨⟩, ⟨⟩⟩ := b
  simp only [cfgNumbers, cfgTruths, List.cons_append, List.nil_append, List.forall_mem_cons, Int.natCast_inj,
    BitVec.toNat_inj, BitVec.toInt_inj] at hn ht hs
  simp only [hn, ht, hs]

end Sys2Proof.Machine
end

