-- ==== Sys2Proof/Laws/State.lean ====
section
/-! SUPPORT. One lemma per field per update: what each update writes and what it leaves. Each is true by unfolding one update. -/

namespace Sys2Proof.Machine

@[simp] theorem State.setErr_mot (s : State) (m : U8) : (s.setErr m).mot = s.mot := rfl
@[simp] theorem State.setErr_frm (s : State) (m : U8) : (s.setErr m).frm = s.frm := rfl
@[simp] theorem State.setErr_spi (s : State) (m : U8) : (s.setErr m).spi = s.spi := rfl
@[simp] theorem State.setErr_sys (s : State) (m : U8) : (s.setErr m).sys = s.sys := rfl
@[simp] theorem State.setErr_nv (s : State) (m : U8) : (s.setErr m).nv = s.nv := rfl
@[simp] theorem State.setErr_cfg (s : State) (m : U8) : (s.setErr m).cfg = s.cfg := rfl
@[simp] theorem State.setErr_hist (s : State) (m : U8) : (s.setErr m).hist = s.hist := rfl
@[simp] theorem State.setErr_res (s : State) (m : U8) : (s.setErr m).res = s.res := rfl
@[simp] theorem State.setErr_env (s : State) (m : U8) : (s.setErr m).env = s.env := rfl

@[simp] theorem State.clearErr_mot (s : State) (m : U8) : (s.clearErr m).mot = s.mot := rfl
@[simp] theorem State.clearErr_frm (s : State) (m : U8) : (s.clearErr m).frm = s.frm := rfl
@[simp] theorem State.clearErr_spi (s : State) (m : U8) : (s.clearErr m).spi = s.spi := rfl
@[simp] theorem State.clearErr_sys (s : State) (m : U8) : (s.clearErr m).sys = s.sys := rfl
@[simp] theorem State.clearErr_nv (s : State) (m : U8) : (s.clearErr m).nv = s.nv := rfl
@[simp] theorem State.clearErr_cfg (s : State) (m : U8) : (s.clearErr m).cfg = s.cfg := rfl
@[simp] theorem State.clearErr_hist (s : State) (m : U8) : (s.clearErr m).hist = s.hist := rfl
@[simp] theorem State.clearErr_res (s : State) (m : U8) : (s.clearErr m).res = s.res := rfl
@[simp] theorem State.clearErr_env (s : State) (m : U8) : (s.clearErr m).env = s.env := rfl

@[simp] theorem State.post_ctl (s : State) (t : TaskFlag) : (s.post t).ctl = s.ctl := rfl
@[simp] theorem State.post_mot (s : State) (t : TaskFlag) : (s.post t).mot = s.mot := rfl
@[simp] theorem State.post_frm (s : State) (t : TaskFlag) : (s.post t).frm = s.frm := rfl
@[simp] theorem State.post_spi (s : State) (t : TaskFlag) : (s.post t).spi = s.spi := rfl
@[simp] theorem State.post_nv (s : State) (t : TaskFlag) : (s.post t).nv = s.nv := rfl
@[simp] theorem State.post_cfg (s : State) (t : TaskFlag) : (s.post t).cfg = s.cfg := rfl
@[simp] theorem State.post_hist (s : State) (t : TaskFlag) : (s.post t).hist = s.hist := rfl
@[simp] theorem State.post_res (s : State) (t : TaskFlag) : (s.post t).res = s.res := rfl
@[simp] theorem State.post_env (s : State) (t : TaskFlag) : (s.post t).env = s.env := rfl
@[simp] theorem State.post_sys_taskFlags (s : State) (t : TaskFlag) :
    (s.post t).sys.taskFlags = s.sys.taskFlags ||| taskMask t := rfl
@[simp] theorem State.post_sys_gie (s : State) (t : TaskFlag) : (s.post t).sys.gie = s.sys.gie := rfl
@[simp] theorem State.post_sys_rfmIrqEn (s : State) (t : TaskFlag) : (s.post t).sys.rfmIrqEn = s.sys.rfmIrqEn := rfl
@[simp] theorem State.post_sys_inIsr (s : State) (t : TaskFlag) : (s.post t).sys.inIsr = s.sys.inIsr := rfl
@[simp] theorem State.post_sys_sleeping (s : State) (t : TaskFlag) : (s.post t).sys.sleeping = false := rfl
@[simp] theorem State.post_sys_booted (s : State) (t : TaskFlag) : (s.post t).sys.booted = s.sys.booted := rfl
@[simp] theorem State.post_sys_halted (s : State) (t : TaskFlag) : (s.post t).sys.halted = s.sys.halted := rfl
@[simp] theorem State.post_sys_fault (s : State) (t : TaskFlag) : (s.post t).sys.fault = s.sys.fault := rfl
@[simp] theorem State.post_sys_refused (s : State) (t : TaskFlag) : (s.post t).sys.refused = s.sys.refused := rfl
@[simp] theorem State.post_sys_now (s : State) (t : TaskFlag) : (s.post t).sys.now = s.sys.now := rfl

@[simp] theorem State.clearTask_ctl (s : State) (t : TaskFlag) : (s.clearTask t).ctl = s.ctl := rfl
@[simp] theorem State.clearTask_mot (s : State) (t : TaskFlag) : (s.clearTask t).mot = s.mot := rfl
@[simp] theorem State.clearTask_frm (s : State) (t : TaskFlag) : (s.clearTask t).frm = s.frm := rfl
@[simp] theorem State.clearTask_spi (s : State) (t : TaskFlag) : (s.clearTask t).spi = s.spi := rfl
@[simp] theorem State.clearTask_nv (s : State) (t : TaskFlag) : (s.clearTask t).nv = s.nv := rfl
@[simp] theorem State.clearTask_cfg (s : State) (t : TaskFlag) : (s.clearTask t).cfg = s.cfg := rfl
@[simp] theorem State.clearTask_hist (s : State) (t : TaskFlag) : (s.clearTask t).hist = s.hist := rfl
@[simp] theorem State.clearTask_res (s : State) (t : TaskFlag) : (s.clearTask t).res = s.res := rfl
@[simp] theorem State.clearTask_env (s : State) (t : TaskFlag) : (s.clearTask t).env = s.env := rfl
@[simp] theorem State.clearTask_sys_taskFlags (s : State) (t : TaskFlag) :
    (s.clearTask t).sys.taskFlags = s.sys.taskFlags &&& ~~~taskMask t := rfl
@[simp] theorem State.clearTask_sys_gie (s : State) (t : TaskFlag) : (s.clearTask t).sys.gie = s.sys.gie := rfl
@[simp] theorem State.clearTask_sys_rfmIrqEn (s : State) (t : TaskFlag) :
    (s.clearTask t).sys.rfmIrqEn = s.sys.rfmIrqEn := rfl
@[simp] theorem State.clearTask_sys_inIsr (s : State) (t : TaskFlag) : (s.clearTask t).sys.inIsr = s.sys.inIsr := rfl
@[simp] theorem State.clearTask_sys_sleeping (s : State) (t : TaskFlag) :
    (s.clearTask t).sys.sleeping = s.sys.sleeping := rfl
@[simp] theorem State.clearTask_sys_booted (s : State) (t : TaskFlag) :
    (s.clearTask t).sys.booted = s.sys.booted := rfl
@[simp] theorem State.clearTask_sys_halted (s : State) (t : TaskFlag) :
    (s.clearTask t).sys.halted = s.sys.halted := rfl
@[simp] theorem State.clearTask_sys_fault (s : State) (t : TaskFlag) : (s.clearTask t).sys.fault = s.sys.fault := rfl
@[simp] theorem State.clearTask_sys_refused (s : State) (t : TaskFlag) :
    (s.clearTask t).sys.refused = s.sys.refused := rfl
@[simp] theorem State.clearTask_sys_now (s : State) (t : TaskFlag) : (s.clearTask t).sys.now = s.sys.now := rfl

@[simp] theorem State.withRes_ctl (s : State) (v : U16) : (s.withRes v).ctl = s.ctl := rfl
@[simp] theorem State.withRes_mot (s : State) (v : U16) : (s.withRes v).mot = s.mot := rfl
@[simp] theorem State.withRes_frm (s : State) (v : U16) : (s.withRes v).frm = s.frm := rfl
@[simp] theorem State.withRes_spi (s : State) (v : U16) : (s.withRes v).spi = s.spi := rfl
@[simp] theorem State.withRes_sys (s : State) (v : U16) : (s.withRes v).sys = s.sys := rfl
@[simp] theorem State.withRes_nv (s : State) (v : U16) : (s.withRes v).nv = s.nv := rfl
@[simp] theorem State.withRes_cfg (s : State) (v : U16) : (s.withRes v).cfg = s.cfg := rfl
@[simp] theorem State.withRes_hist (s : State) (v : U16) : (s.withRes v).hist = s.hist := rfl
@[simp] theorem State.withRes_env (s : State) (v : U16) : (s.withRes v).env = s.env := rfl

@[simp] theorem recordFault_ctl (s : State) (c : FaultCode) (i : U8) : (recordFault s c i).ctl = s.ctl := rfl
@[simp] theorem recordFault_mot (s : State) (c : FaultCode) (i : U8) : (recordFault s c i).mot = s.mot := rfl
@[simp] theorem recordFault_frm (s : State) (c : FaultCode) (i : U8) : (recordFault s c i).frm = s.frm := rfl
@[simp] theorem recordFault_spi (s : State) (c : FaultCode) (i : U8) : (recordFault s c i).spi = s.spi := rfl
@[simp] theorem recordFault_nv (s : State) (c : FaultCode) (i : U8) : (recordFault s c i).nv = s.nv := rfl
@[simp] theorem recordFault_cfg (s : State) (c : FaultCode) (i : U8) : (recordFault s c i).cfg = s.cfg := rfl
@[simp] theorem recordFault_hist (s : State) (c : FaultCode) (i : U8) : (recordFault s c i).hist = s.hist := rfl
@[simp] theorem recordFault_res (s : State) (c : FaultCode) (i : U8) : (recordFault s c i).res = s.res := rfl
@[simp] theorem recordFault_env (s : State) (c : FaultCode) (i : U8) : (recordFault s c i).env = s.env := rfl
@[simp] theorem recordFault_sys_taskFlags (s : State) (c : FaultCode) (i : U8) :
    (recordFault s c i).sys.taskFlags = s.sys.taskFlags := rfl
@[simp] theorem recordFault_sys_gie (s : State) (c : FaultCode) (i : U8) :
    (recordFault s c i).sys.gie = s.sys.gie := rfl
@[simp] theorem recordFault_sys_rfmIrqEn (s : State) (c : FaultCode) (i : U8) :
    (recordFault s c i).sys.rfmIrqEn = s.sys.rfmIrqEn := rfl
@[simp] theorem recordFault_sys_inIsr (s : State) (c : FaultCode) (i : U8) :
    (recordFault s c i).sys.inIsr = s.sys.inIsr := rfl
@[simp] theorem recordFault_sys_sleeping (s : State) (c : FaultCode) (i : U8) :
    (recordFault s c i).sys.sleeping = s.sys.sleeping := rfl
@[simp] theorem recordFault_sys_booted (s : State) (c : FaultCode) (i : U8) :
    (recordFault s c i).sys.booted = s.sys.booted := rfl
@[simp] theorem recordFault_sys_halted (s : State) (c : FaultCode) (i : U8) :
    (recordFault s c i).sys.halted = s.sys.halted := rfl
@[simp] theorem recordFault_sys_fault (s : State) (c : FaultCode) (i : U8) :
    (recordFault s c i).sys.fault = some (c, i) := rfl
@[simp] theorem recordFault_sys_refused (s : State) (c : FaultCode) (i : U8) :
    (recordFault s c i).sys.refused = s.sys.refused := rfl
@[simp] theorem recordFault_sys_now (s : State) (c : FaultCode) (i : U8) :
    (recordFault s c i).sys.now = s.sys.now := rfl

@[simp] theorem markRefused_ctl (s : State) (r : RefuseReason) : (markRefused s r).ctl = s.ctl := rfl
@[simp] theorem markRefused_mot (s : State) (r : RefuseReason) : (markRefused s r).mot = s.mot := rfl
@[simp] theorem markRefused_frm (s : State) (r : RefuseReason) : (markRefused s r).frm = s.frm := rfl
@[simp] theorem markRefused_spi (s : State) (r : RefuseReason) : (markRefused s r).spi = s.spi := rfl
@[simp] theorem markRefused_nv (s : State) (r : RefuseReason) : (markRefused s r).nv = s.nv := rfl
@[simp] theorem markRefused_cfg (s : State) (r : RefuseReason) : (markRefused s r).cfg = s.cfg := rfl
@[simp] theorem markRefused_hist (s : State) (r : RefuseReason) : (markRefused s r).hist = s.hist := rfl
@[simp] theorem markRefused_res (s : State) (r : RefuseReason) : (markRefused s r).res = s.res := rfl
@[simp] theorem markRefused_sys_taskFlags (s : State) (r : RefuseReason) :
    (markRefused s r).sys.taskFlags = s.sys.taskFlags := rfl
@[simp] theorem markRefused_sys_gie (s : State) (r : RefuseReason) : (markRefused s r).sys.gie = s.sys.gie := rfl
@[simp] theorem markRefused_sys_rfmIrqEn (s : State) (r : RefuseReason) :
    (markRefused s r).sys.rfmIrqEn = s.sys.rfmIrqEn := rfl
@[simp] theorem markRefused_sys_inIsr (s : State) (r : RefuseReason) :
    (markRefused s r).sys.inIsr = s.sys.inIsr := rfl
@[simp] theorem markRefused_sys_sleeping (s : State) (r : RefuseReason) :
    (markRefused s r).sys.sleeping = s.sys.sleeping := rfl
@[simp] theorem markRefused_sys_booted (s : State) (r : RefuseReason) :
    (markRefused s r).sys.booted = s.sys.booted := rfl
@[simp] theorem markRefused_sys_halted (s : State) (r : RefuseReason) :
    (markRefused s r).sys.halted = s.sys.halted := rfl
@[simp] theorem markRefused_sys_fault (s : State) (r : RefuseReason) :
    (markRefused s r).sys.fault = s.sys.fault := rfl
@[simp] theorem markRefused_sys_refused (s : State) (r : RefuseReason) : (markRefused s r).sys.refused = true := rfl
@[simp] theorem markRefused_sys_now (s : State) (r : RefuseReason) : (markRefused s r).sys.now = s.sys.now := rfl
@[simp] theorem markRefused_env_script (s : State) (r : RefuseReason) :
    (markRefused s r).env.script = s.env.script := rfl
@[simp] theorem markRefused_env_ports (s : State) (r : RefuseReason) :
    (markRefused s r).env.ports = s.env.ports := rfl
@[simp] theorem markRefused_env_issuer (s : State) (r : RefuseReason) :
    (markRefused s r).env.issuer = s.env.issuer := rfl
@[simp] theorem markRefused_env_draws (s : State) (r : RefuseReason) :
    (markRefused s r).env.draws = s.env.draws := rfl
@[simp] theorem markRefused_env_report (s : State) (r : RefuseReason) : (markRefused s r).env.report = some r := rfl

@[simp] theorem isrEntry_ctl (s : State) : (isrEntry s).ctl = s.ctl := rfl
@[simp] theorem isrEntry_mot (s : State) : (isrEntry s).mot = s.mot := rfl
@[simp] theorem isrEntry_frm (s : State) : (isrEntry s).frm = s.frm := rfl
@[simp] theorem isrEntry_spi (s : State) : (isrEntry s).spi = s.spi := rfl
@[simp] theorem isrEntry_nv (s : State) : (isrEntry s).nv = s.nv := rfl
@[simp] theorem isrEntry_cfg (s : State) : (isrEntry s).cfg = s.cfg := rfl
@[simp] theorem isrEntry_hist (s : State) : (isrEntry s).hist = s.hist := rfl
@[simp] theorem isrEntry_res (s : State) : (isrEntry s).res = s.res := rfl
@[simp] theorem isrEntry_env (s : State) : (isrEntry s).env = s.env := rfl
@[simp] theorem isrEntry_sys_taskFlags (s : State) : (isrEntry s).sys.taskFlags = s.sys.taskFlags := rfl
@[simp] theorem isrEntry_sys_gie (s : State) : (isrEntry s).sys.gie = false := rfl
@[simp] theorem isrEntry_sys_rfmIrqEn (s : State) : (isrEntry s).sys.rfmIrqEn = s.sys.rfmIrqEn := rfl
@[simp] theorem isrEntry_sys_inIsr (s : State) : (isrEntry s).sys.inIsr = true := rfl
@[simp] theorem isrEntry_sys_sleeping (s : State) : (isrEntry s).sys.sleeping = false := rfl
@[simp] theorem isrEntry_sys_booted (s : State) : (isrEntry s).sys.booted = s.sys.booted := rfl
@[simp] theorem isrEntry_sys_halted (s : State) : (isrEntry s).sys.halted = s.sys.halted := rfl
@[simp] theorem isrEntry_sys_fault (s : State) : (isrEntry s).sys.fault = s.sys.fault := rfl
@[simp] theorem isrEntry_sys_refused (s : State) : (isrEntry s).sys.refused = s.sys.refused := rfl
@[simp] theorem isrEntry_sys_now (s : State) : (isrEntry s).sys.now = s.sys.now := rfl

@[simp] theorem isrReturn_ctl (s : State) : (isrReturn s).ctl = s.ctl := rfl
@[simp] theorem isrReturn_mot (s : State) : (isrReturn s).mot = s.mot := rfl
@[simp] theorem isrReturn_frm (s : State) : (isrReturn s).frm = s.frm := rfl
@[simp] theorem isrReturn_spi (s : State) : (isrReturn s).spi = s.spi := rfl
@[simp] theorem isrReturn_nv (s : State) : (isrReturn s).nv = s.nv := rfl
@[simp] theorem isrReturn_cfg (s : State) : (isrReturn s).cfg = s.cfg := rfl
@[simp] theorem isrReturn_hist (s : State) : (isrReturn s).hist = s.hist := rfl
@[simp] theorem isrReturn_res (s : State) : (isrReturn s).res = s.res := rfl
@[simp] theorem isrReturn_env (s : State) : (isrReturn s).env = s.env := rfl
@[simp] theorem isrReturn_sys_taskFlags (s : State) : (isrReturn s).sys.taskFlags = s.sys.taskFlags := rfl
@[simp] theorem isrReturn_sys_gie (s : State) : (isrReturn s).sys.gie = true := rfl
@[simp] theorem isrReturn_sys_rfmIrqEn (s : State) : (isrReturn s).sys.rfmIrqEn = s.sys.rfmIrqEn := rfl
@[simp] theorem isrReturn_sys_inIsr (s : State) : (isrReturn s).sys.inIsr = false := rfl
@[simp] theorem isrReturn_sys_sleeping (s : State) : (isrReturn s).sys.sleeping = s.sys.sleeping := rfl
@[simp] theorem isrReturn_sys_booted (s : State) : (isrReturn s).sys.booted = s.sys.booted := rfl
@[simp] theorem isrReturn_sys_halted (s : State) : (isrReturn s).sys.halted = s.sys.halted := rfl
@[simp] theorem isrReturn_sys_fault (s : State) : (isrReturn s).sys.fault = s.sys.fault := rfl
@[simp] theorem isrReturn_sys_refused (s : State) : (isrReturn s).sys.refused = s.sys.refused := rfl
@[simp] theorem isrReturn_sys_now (s : State) : (isrReturn s).sys.now = s.sys.now := rfl

@[simp] theorem wake_ctl (s : State) : (wake s).ctl = s.ctl := rfl
@[simp] theorem wake_mot (s : State) : (wake s).mot = s.mot := rfl
@[simp] theorem wake_frm (s : State) : (wake s).frm = s.frm := rfl
@[simp] theorem wake_spi (s : State) : (wake s).spi = s.spi := rfl
@[simp] theorem wake_nv (s : State) : (wake s).nv = s.nv := rfl
@[simp] theorem wake_cfg (s : State) : (wake s).cfg = s.cfg := rfl
@[simp] theorem wake_hist (s : State) : (wake s).hist = s.hist := rfl
@[simp] theorem wake_res (s : State) : (wake s).res = s.res := rfl
@[simp] theorem wake_env (s : State) : (wake s).env = s.env := rfl
@[simp] theorem wake_sys_taskFlags (s : State) : (wake s).sys.taskFlags = s.sys.taskFlags := rfl
@[simp] theorem wake_sys_gie (s : State) : (wake s).sys.gie = s.sys.gie := rfl
@[simp] theorem wake_sys_rfmIrqEn (s : State) : (wake s).sys.rfmIrqEn = s.sys.rfmIrqEn := rfl
@[simp] theorem wake_sys_inIsr (s : State) : (wake s).sys.inIsr = s.sys.inIsr := rfl
@[simp] theorem wake_sys_sleeping (s : State) : (wake s).sys.sleeping = false := rfl
@[simp] theorem wake_sys_booted (s : State) : (wake s).sys.booted = s.sys.booted := rfl
@[simp] theorem wake_sys_halted (s : State) : (wake s).sys.halted = s.sys.halted := rfl
@[simp] theorem wake_sys_fault (s : State) : (wake s).sys.fault = s.sys.fault := rfl
@[simp] theorem wake_sys_refused (s : State) : (wake s).sys.refused = s.sys.refused := rfl
@[simp] theorem wake_sys_now (s : State) : (wake s).sys.now = s.sys.now := rfl

@[simp] theorem tmrTick_ctl (s : State) : (tmrTick s).ctl = s.ctl := rfl
@[simp] theorem tmrTick_mot (s : State) : (tmrTick s).mot = s.mot := rfl
@[simp] theorem tmrTick_frm (s : State) : (tmrTick s).frm = s.frm := rfl
@[simp] theorem tmrTick_spi (s : State) : (tmrTick s).spi = s.spi := rfl
@[simp] theorem tmrTick_nv (s : State) : (tmrTick s).nv = s.nv := rfl
@[simp] theorem tmrTick_cfg (s : State) : (tmrTick s).cfg = s.cfg := rfl
@[simp] theorem tmrTick_hist (s : State) : (tmrTick s).hist = s.hist := rfl
@[simp] theorem tmrTick_res (s : State) : (tmrTick s).res = s.res := rfl
@[simp] theorem tmrTick_env (s : State) : (tmrTick s).env = s.env := rfl
@[simp] theorem tmrTick_sys_taskFlags (s : State) : (tmrTick s).sys.taskFlags = s.sys.taskFlags := rfl
@[simp] theorem tmrTick_sys_gie (s : State) : (tmrTick s).sys.gie = s.sys.gie := rfl
@[simp] theorem tmrTick_sys_rfmIrqEn (s : State) : (tmrTick s).sys.rfmIrqEn = s.sys.rfmIrqEn := rfl
@[simp] theorem tmrTick_sys_inIsr (s : State) : (tmrTick s).sys.inIsr = s.sys.inIsr := rfl
@[simp] theorem tmrTick_sys_sleeping (s : State) : (tmrTick s).sys.sleeping = s.sys.sleeping := rfl
@[simp] theorem tmrTick_sys_booted (s : State) : (tmrTick s).sys.booted = s.sys.booted := rfl
@[simp] theorem tmrTick_sys_halted (s : State) : (tmrTick s).sys.halted = s.sys.halted := rfl
@[simp] theorem tmrTick_sys_fault (s : State) : (tmrTick s).sys.fault = s.sys.fault := rfl
@[simp] theorem tmrTick_sys_refused (s : State) : (tmrTick s).sys.refused = s.sys.refused := rfl
@[simp] theorem tmrTick_sys_now (s : State) : (tmrTick s).sys.now = s.sys.now + 1 := rfl

@[simp] theorem spiSend_ctl (s : State) (w : U16) : (spiSend s w).ctl = s.ctl := rfl
@[simp] theorem spiSend_mot (s : State) (w : U16) : (spiSend s w).mot = s.mot := rfl
@[simp] theorem spiSend_frm (s : State) (w : U16) : (spiSend s w).frm = s.frm := rfl
@[simp] theorem spiSend_sys (s : State) (w : U16) : (spiSend s w).sys = s.sys := rfl
@[simp] theorem spiSend_nv (s : State) (w : U16) : (spiSend s w).nv = s.nv := rfl
@[simp] theorem spiSend_cfg (s : State) (w : U16) : (spiSend s w).cfg = s.cfg := rfl
@[simp] theorem spiSend_res (s : State) (w : U16) : (spiSend s w).res = s.res := rfl
@[simp] theorem spiSend_env_script (s : State) (w : U16) : (spiSend s w).env.script = s.env.script := rfl
@[simp] theorem spiSend_env_issuer (s : State) (w : U16) : (spiSend s w).env.issuer = s.env.issuer := rfl
@[simp] theorem spiSend_env_report (s : State) (w : U16) : (spiSend s w).env.report = s.env.report := rfl

@[simp] theorem ctlUpdate_mot (s : State) : (ctlUpdate s).mot = s.mot := rfl
@[simp] theorem ctlUpdate_frm (s : State) : (ctlUpdate s).frm = s.frm := rfl
@[simp] theorem ctlUpdate_spi (s : State) : (ctlUpdate s).spi = s.spi := rfl
@[simp] theorem ctlUpdate_sys (s : State) : (ctlUpdate s).sys = s.sys := rfl
@[simp] theorem ctlUpdate_nv (s : State) : (ctlUpdate s).nv = s.nv := rfl
@[simp] theorem ctlUpdate_cfg (s : State) : (ctlUpdate s).cfg = s.cfg := rfl
@[simp] theorem ctlUpdate_hist (s : State) : (ctlUpdate s).hist = s.hist := rfl
@[simp] theorem ctlUpdate_res (s : State) : (ctlUpdate s).res = s.res := rfl
@[simp] theorem ctlUpdate_env (s : State) : (ctlUpdate s).env = s.env := rfl

@[simp] theorem ctlWindowHw_mot (s : State) : (ctlWindowHw s).mot = s.mot := rfl
@[simp] theorem ctlWindowHw_frm (s : State) : (ctlWindowHw s).frm = s.frm := rfl
@[simp] theorem ctlWindowHw_spi (s : State) : (ctlWindowHw s).spi = s.spi := rfl
@[simp] theorem ctlWindowHw_sys (s : State) : (ctlWindowHw s).sys = s.sys := rfl
@[simp] theorem ctlWindowHw_nv (s : State) : (ctlWindowHw s).nv = s.nv := rfl
@[simp] theorem ctlWindowHw_cfg (s : State) : (ctlWindowHw s).cfg = s.cfg := rfl
@[simp] theorem ctlWindowHw_hist (s : State) : (ctlWindowHw s).hist = s.hist := rfl
@[simp] theorem ctlWindowHw_res (s : State) : (ctlWindowHw s).res = s.res := rfl
@[simp] theorem ctlWindowHw_env (s : State) : (ctlWindowHw s).env = s.env := rfl

@[simp] theorem ctlBattery_mot (s : State) : (ctlBattery s).mot = s.mot := rfl
@[simp] theorem ctlBattery_frm (s : State) : (ctlBattery s).frm = s.frm := rfl
@[simp] theorem ctlBattery_spi (s : State) : (ctlBattery s).spi = s.spi := rfl
@[simp] theorem ctlBattery_sys (s : State) : (ctlBattery s).sys = s.sys := rfl
@[simp] theorem ctlBattery_nv (s : State) : (ctlBattery s).nv = s.nv := rfl
@[simp] theorem ctlBattery_cfg (s : State) : (ctlBattery s).cfg = s.cfg := rfl
@[simp] theorem ctlBattery_hist (s : State) : (ctlBattery s).hist = s.hist := rfl
@[simp] theorem ctlBattery_res (s : State) : (ctlBattery s).res = s.res := rfl
@[simp] theorem ctlBattery_env (s : State) : (ctlBattery s).env = s.env := rfl

@[simp] theorem ctlSchedFollow_mot (s : State) : (ctlSchedFollow s).mot = s.mot := rfl
@[simp] theorem ctlSchedFollow_frm (s : State) : (ctlSchedFollow s).frm = s.frm := rfl
@[simp] theorem ctlSchedFollow_spi (s : State) : (ctlSchedFollow s).spi = s.spi := rfl
@[simp] theorem ctlSchedFollow_sys (s : State) : (ctlSchedFollow s).sys = s.sys := rfl
@[simp] theorem ctlSchedFollow_nv (s : State) : (ctlSchedFollow s).nv = s.nv := rfl
@[simp] theorem ctlSchedFollow_cfg (s : State) : (ctlSchedFollow s).cfg = s.cfg := rfl
@[simp] theorem ctlSchedFollow_hist (s : State) : (ctlSchedFollow s).hist = s.hist := rfl
@[simp] theorem ctlSchedFollow_res (s : State) : (ctlSchedFollow s).res = s.res := rfl
@[simp] theorem ctlSchedFollow_env (s : State) : (ctlSchedFollow s).env = s.env := rfl

@[simp] theorem startDrive_ctl (s : State) (d : Direction) (t : Int) : (startDrive s d t).ctl = s.ctl := rfl
@[simp] theorem startDrive_frm (s : State) (d : Direction) (t : Int) : (startDrive s d t).frm = s.frm := rfl
@[simp] theorem startDrive_spi (s : State) (d : Direction) (t : Int) : (startDrive s d t).spi = s.spi := rfl
@[simp] theorem startDrive_sys (s : State) (d : Direction) (t : Int) : (startDrive s d t).sys = s.sys := rfl
@[simp] theorem startDrive_nv (s : State) (d : Direction) (t : Int) : (startDrive s d t).nv = s.nv := rfl
@[simp] theorem startDrive_cfg (s : State) (d : Direction) (t : Int) : (startDrive s d t).cfg = s.cfg := rfl
@[simp] theorem startDrive_hist (s : State) (d : Direction) (t : Int) : (startDrive s d t).hist = s.hist := rfl
@[simp] theorem startDrive_res (s : State) (d : Direction) (t : Int) : (startDrive s d t).res = s.res := rfl
@[simp] theorem startDrive_env (s : State) (d : Direction) (t : Int) : (startDrive s d t).env = s.env := rfl
@[simp] theorem startDrive_mot_direction (s : State) (d : Direction) (t : Int) :
    (startDrive s d t).mot.direction = d := rfl
@[simp] theorem startDrive_mot_lastDir (s : State) (d : Direction) (t : Int) :
    (startDrive s d t).mot.lastDir = d := rfl
@[simp] theorem startDrive_mot_positionPulses (s : State) (d : Direction) (t : Int) :
    (startDrive s d t).mot.positionPulses = s.mot.positionPulses := rfl
@[simp] theorem startDrive_mot_maxPulses (s : State) (d : Direction) (t : Int) :
    (startDrive s d t).mot.maxPulses = s.mot.maxPulses := rfl
@[simp] theorem startDrive_mot_targetPulses (s : State) (d : Direction) (t : Int) :
    (startDrive s d t).mot.targetPulses = toI16 t := rfl
@[simp] theorem startDrive_mot_calibrationStep (s : State) (d : Direction) (t : Int) :
    (startDrive s d t).mot.calibrationStep = s.mot.calibrationStep := rfl
@[simp] theorem startDrive_mot_pwmDuty (s : State) (d : Direction) (t : Int) :
    (startDrive s d t).mot.pwmDuty = s.cfg.motor.pwmStart := rfl
@[simp] theorem startDrive_mot_overshootPulses (s : State) (d : Direction) (t : Int) :
    (startDrive s d t).mot.overshootPulses = s.mot.overshootPulses := rfl
@[simp] theorem startDrive_mot_stopReason (s : State) (d : Direction) (t : Int) :
    (startDrive s d t).mot.stopReason = .none := rfl
@[simp] theorem startDrive_mot_ignoreCount (s : State) (d : Direction) (t : Int) :
    (startDrive s d t).mot.ignoreCount = s.cfg.motor.ignoreImpulses := rfl
@[simp] theorem startDrive_mot_wdtArmed (s : State) (d : Direction) (t : Int) :
    (startDrive s d t).mot.wdtArmed = true := rfl
@[simp] theorem startDrive_mot_wdtDeadline (s : State) (d : Direction) (t : Int) :
    (startDrive s d t).mot.wdtDeadline = s.sys.now + 8 * wdtReload s := rfl
@[simp] theorem startDrive_mot_eyeLevel (s : State) (d : Direction) (t : Int) :
    (startDrive s d t).mot.eyeLevel = s.mot.eyeLevel := rfl
@[simp] theorem startDrive_mot_eyeLastTime (s : State) (d : Direction) (t : Int) :
    (startDrive s d t).mot.eyeLastTime = s.mot.eyeLastTime := rfl
@[simp] theorem startDrive_mot_lastPulseTime (s : State) (d : Direction) (t : Int) :
    (startDrive s d t).mot.lastPulseTime = s.sys.now := rfl
@[simp] theorem startDrive_mot_settleCount (s : State) (d : Direction) (t : Int) :
    (startDrive s d t).mot.settleCount = s.mot.settleCount := rfl

@[simp] theorem cutDrive_ctl (s : State) (r : StopReason) : (cutDrive s r).ctl = s.ctl := rfl
@[simp] theorem cutDrive_frm (s : State) (r : StopReason) : (cutDrive s r).frm = s.frm := rfl
@[simp] theorem cutDrive_spi (s : State) (r : StopReason) : (cutDrive s r).spi = s.spi := rfl
@[simp] theorem cutDrive_sys (s : State) (r : StopReason) : (cutDrive s r).sys = s.sys := rfl
@[simp] theorem cutDrive_nv (s : State) (r : StopReason) : (cutDrive s r).nv = s.nv := rfl
@[simp] theorem cutDrive_cfg (s : State) (r : StopReason) : (cutDrive s r).cfg = s.cfg := rfl
@[simp] theorem cutDrive_hist (s : State) (r : StopReason) : (cutDrive s r).hist = s.hist := rfl
@[simp] theorem cutDrive_res (s : State) (r : StopReason) : (cutDrive s r).res = s.res := rfl
@[simp] theorem cutDrive_env (s : State) (r : StopReason) : (cutDrive s r).env = s.env := rfl
@[simp] theorem cutDrive_mot_direction (s : State) (r : StopReason) : (cutDrive s r).mot.direction = .stop := rfl
@[simp] theorem cutDrive_mot_lastDir (s : State) (r : StopReason) : (cutDrive s r).mot.lastDir = s.mot.lastDir := rfl
@[simp] theorem cutDrive_mot_positionPulses (s : State) (r : StopReason) :
    (cutDrive s r).mot.positionPulses = s.mot.positionPulses := rfl
@[simp] theorem cutDrive_mot_maxPulses (s : State) (r : StopReason) :
    (cutDrive s r).mot.maxPulses = s.mot.maxPulses := rfl
@[simp] theorem cutDrive_mot_targetPulses (s : State) (r : StopReason) :
    (cutDrive s r).mot.targetPulses = s.mot.targetPulses := rfl
@[simp] theorem cutDrive_mot_calibrationStep (s : State) (r : StopReason) :
    (cutDrive s r).mot.calibrationStep = s.mot.calibrationStep := rfl
@[simp] theorem cutDrive_mot_pwmDuty (s : State) (r : StopReason) : (cutDrive s r).mot.pwmDuty = s.mot.pwmDuty := rfl
@[simp] theorem cutDrive_mot_overshootPulses (s : State) (r : StopReason) :
    (cutDrive s r).mot.overshootPulses = 0 := rfl
@[simp] theorem cutDrive_mot_stopReason (s : State) (r : StopReason) : (cutDrive s r).mot.stopReason = r := rfl
@[simp] theorem cutDrive_mot_ignoreCount (s : State) (r : StopReason) :
    (cutDrive s r).mot.ignoreCount = s.mot.ignoreCount := rfl
@[simp] theorem cutDrive_mot_wdtArmed (s : State) (r : StopReason) :
    (cutDrive s r).mot.wdtArmed = s.mot.wdtArmed := rfl
@[simp] theorem cutDrive_mot_wdtDeadline (s : State) (r : StopReason) :
    (cutDrive s r).mot.wdtDeadline = s.mot.wdtDeadline := rfl
@[simp] theorem cutDrive_mot_eyeLevel (s : State) (r : StopReason) :
    (cutDrive s r).mot.eyeLevel = s.mot.eyeLevel := rfl
@[simp] theorem cutDrive_mot_eyeLastTime (s : State) (r : StopReason) :
    (cutDrive s r).mot.eyeLastTime = s.mot.eyeLastTime := rfl
@[simp] theorem cutDrive_mot_lastPulseTime (s : State) (r : StopReason) :
    (cutDrive s r).mot.lastPulseTime = s.mot.lastPulseTime := rfl
@[simp] theorem cutDrive_mot_settleCount (s : State) (r : StopReason) :
    (cutDrive s r).mot.settleCount = s.mot.settleCount := rfl

@[simp] theorem setTarget_ctl (s : State) (t : Int) : (setTarget s t).ctl = s.ctl := rfl
@[simp] theorem setTarget_frm (s : State) (t : Int) : (setTarget s t).frm = s.frm := rfl
@[simp] theorem setTarget_spi (s : State) (t : Int) : (setTarget s t).spi = s.spi := rfl
@[simp] theorem setTarget_sys (s : State) (t : Int) : (setTarget s t).sys = s.sys := rfl
@[simp] theorem setTarget_nv (s : State) (t : Int) : (setTarget s t).nv = s.nv := rfl
@[simp] theorem setTarget_cfg (s : State) (t : Int) : (setTarget s t).cfg = s.cfg := rfl
@[simp] theorem setTarget_hist (s : State) (t : Int) : (setTarget s t).hist = s.hist := rfl
@[simp] theorem setTarget_res (s : State) (t : Int) : (setTarget s t).res = s.res := rfl
@[simp] theorem setTarget_env (s : State) (t : Int) : (setTarget s t).env = s.env := rfl
@[simp] theorem setTarget_mot_direction (s : State) (t : Int) : (setTarget s t).mot.direction = s.mot.direction := rfl
@[simp] theorem setTarget_mot_lastDir (s : State) (t : Int) : (setTarget s t).mot.lastDir = s.mot.lastDir := rfl
@[simp] theorem setTarget_mot_positionPulses (s : State) (t : Int) :
    (setTarget s t).mot.positionPulses = s.mot.positionPulses := rfl
@[simp] theorem setTarget_mot_maxPulses (s : State) (t : Int) : (setTarget s t).mot.maxPulses = s.mot.maxPulses := rfl
@[simp] theorem setTarget_mot_targetPulses (s : State) (t : Int) : (setTarget s t).mot.targetPulses = toI16 t := rfl
@[simp] theorem setTarget_mot_calibrationStep (s : State) (t : Int) :
    (setTarget s t).mot.calibrationStep = s.mot.calibrationStep := rfl
@[simp] theorem setTarget_mot_pwmDuty (s : State) (t : Int) : (setTarget s t).mot.pwmDuty = s.mot.pwmDuty := rfl
@[simp] theorem setTarget_mot_overshootPulses (s : State) (t : Int) :
    (setTarget s t).mot.overshootPulses = s.mot.overshootPulses := rfl
@[simp] theorem setTarget_mot_stopReason (s : State) (t : Int) :
    (setTarget s t).mot.stopReason = s.mot.stopReason := rfl
@[simp] theorem setTarget_mot_ignoreCount (s : State) (t : Int) :
    (setTarget s t).mot.ignoreCount = s.mot.ignoreCount := rfl
@[simp] theorem setTarget_mot_wdtArmed (s : State) (t : Int) : (setTarget s t).mot.wdtArmed = s.mot.wdtArmed := rfl
@[simp] theorem setTarget_mot_wdtDeadline (s : State) (t : Int) :
    (setTarget s t).mot.wdtDeadline = s.mot.wdtDeadline := rfl
@[simp] theorem setTarget_mot_eyeLevel (s : State) (t : Int) : (setTarget s t).mot.eyeLevel = s.mot.eyeLevel := rfl
@[simp] theorem setTarget_mot_eyeLastTime (s : State) (t : Int) :
    (setTarget s t).mot.eyeLastTime = s.mot.eyeLastTime := rfl
@[simp] theorem setTarget_mot_lastPulseTime (s : State) (t : Int) :
    (setTarget s t).mot.lastPulseTime = s.mot.lastPulseTime := rfl
@[simp] theorem setTarget_mot_settleCount (s : State) (t : Int) :
    (setTarget s t).mot.settleCount = s.mot.settleCount := rfl

@[simp] theorem edgeLatched_ctl (s : State) (l : BitVec 1) : (edgeLatched s l).ctl = s.ctl := rfl
@[simp] theorem edgeLatched_frm (s : State) (l : BitVec 1) : (edgeLatched s l).frm = s.frm := rfl
@[simp] theorem edgeLatched_spi (s : State) (l : BitVec 1) : (edgeLatched s l).spi = s.spi := rfl
@[simp] theorem edgeLatched_sys (s : State) (l : BitVec 1) : (edgeLatched s l).sys = s.sys := rfl
@[simp] theorem edgeLatched_nv (s : State) (l : BitVec 1) : (edgeLatched s l).nv = s.nv := rfl
@[simp] theorem edgeLatched_cfg (s : State) (l : BitVec 1) : (edgeLatched s l).cfg = s.cfg := rfl
@[simp] theorem edgeLatched_hist (s : State) (l : BitVec 1) : (edgeLatched s l).hist = s.hist := rfl
@[simp] theorem edgeLatched_res (s : State) (l : BitVec 1) : (edgeLatched s l).res = s.res := rfl
@[simp] theorem edgeLatched_env (s : State) (l : BitVec 1) : (edgeLatched s l).env = s.env := rfl
@[simp] theorem edgeLatched_mot_direction (s : State) (l : BitVec 1) :
    (edgeLatched s l).mot.direction = s.mot.direction := rfl
@[simp] theorem edgeLatched_mot_lastDir (s : State) (l : BitVec 1) :
    (edgeLatched s l).mot.lastDir = s.mot.lastDir := rfl
@[simp] theorem edgeLatched_mot_positionPulses (s : State) (l : BitVec 1) :
    (edgeLatched s l).mot.positionPulses = s.mot.positionPulses := rfl
@[simp] theorem edgeLatched_mot_maxPulses (s : State) (l : BitVec 1) :
    (edgeLatched s l).mot.maxPulses = s.mot.maxPulses := rfl
@[simp] theorem edgeLatched_mot_targetPulses (s : State) (l : BitVec 1) :
    (edgeLatched s l).mot.targetPulses = s.mot.targetPulses := rfl
@[simp] theorem edgeLatched_mot_calibrationStep (s : State) (l : BitVec 1) :
    (edgeLatched s l).mot.calibrationStep = s.mot.calibrationStep := rfl
@[simp] theorem edgeLatched_mot_pwmDuty (s : State) (l : BitVec 1) :
    (edgeLatched s l).mot.pwmDuty = s.mot.pwmDuty := rfl
@[simp] theorem edgeLatched_mot_overshootPulses (s : State) (l : BitVec 1) :
    (edgeLatched s l).mot.overshootPulses = s.mot.overshootPulses := rfl
@[simp] theorem edgeLatched_mot_stopReason (s : State) (l : BitVec 1) :
    (edgeLatched s l).mot.stopReason = s.mot.stopReason := rfl
@[simp] theorem edgeLatched_mot_ignoreCount (s : State) (l : BitVec 1) :
    (edgeLatched s l).mot.ignoreCount = s.mot.ignoreCount := rfl
@[simp] theorem edgeLatched_mot_wdtArmed (s : State) (l : BitVec 1) :
    (edgeLatched s l).mot.wdtArmed = s.mot.wdtArmed := rfl
@[simp] theorem edgeLatched_mot_wdtDeadline (s : State) (l : BitVec 1) :
    (edgeLatched s l).mot.wdtDeadline = s.mot.wdtDeadline := rfl
@[simp] theorem edgeLatched_mot_eyeLevel (s : State) (l : BitVec 1) : (edgeLatched s l).mot.eyeLevel = l := rfl
@[simp] theorem edgeLatched_mot_eyeLastTime (s : State) (l : BitVec 1) :
    (edgeLatched s l).mot.eyeLastTime = s.sys.now := rfl
@[simp] theorem edgeLatched_mot_lastPulseTime (s : State) (l : BitVec 1) :
    (edgeLatched s l).mot.lastPulseTime = s.mot.lastPulseTime := rfl
@[simp] theorem edgeLatched_mot_settleCount (s : State) (l : BitVec 1) :
    (edgeLatched s l).mot.settleCount = s.mot.settleCount := rfl

@[simp] theorem pulseCounted_ctl (s : State) : (pulseCounted s).ctl = s.ctl := rfl
@[simp] theorem pulseCounted_frm (s : State) : (pulseCounted s).frm = s.frm := rfl
@[simp] theorem pulseCounted_spi (s : State) : (pulseCounted s).spi = s.spi := rfl
@[simp] theorem pulseCounted_sys (s : State) : (pulseCounted s).sys = s.sys := rfl
@[simp] theorem pulseCounted_nv (s : State) : (pulseCounted s).nv = s.nv := rfl
@[simp] theorem pulseCounted_cfg (s : State) : (pulseCounted s).cfg = s.cfg := rfl
@[simp] theorem pulseCounted_hist (s : State) : (pulseCounted s).hist = s.hist := rfl
@[simp] theorem pulseCounted_res (s : State) : (pulseCounted s).res = s.res := rfl
@[simp] theorem pulseCounted_env (s : State) : (pulseCounted s).env = s.env := rfl
@[simp] theorem pulseCounted_mot_direction (s : State) : (pulseCounted s).mot.direction = s.mot.direction := rfl
@[simp] theorem pulseCounted_mot_lastDir (s : State) : (pulseCounted s).mot.lastDir = s.mot.lastDir := rfl
@[simp] theorem pulseCounted_mot_positionPulses (s : State) :
    (pulseCounted s).mot.positionPulses = wrap16 (s.mot.positionPulses.toInt + dsign s.mot.lastDir) := rfl
@[simp] theorem pulseCounted_mot_maxPulses (s : State) : (pulseCounted s).mot.maxPulses = s.mot.maxPulses := rfl
@[simp] theorem pulseCounted_mot_targetPulses (s : State) :
    (pulseCounted s).mot.targetPulses = s.mot.targetPulses := rfl
@[simp] theorem pulseCounted_mot_calibrationStep (s : State) :
    (pulseCounted s).mot.calibrationStep = s.mot.calibrationStep := rfl
@[simp] theorem pulseCounted_mot_pwmDuty (s : State) : (pulseCounted s).mot.pwmDuty = s.mot.pwmDuty := rfl
@[simp] theorem pulseCounted_mot_overshootPulses (s : State) :
    (pulseCounted s).mot.overshootPulses = s.mot.overshootPulses := rfl
@[simp] theorem pulseCounted_mot_stopReason (s : State) : (pulseCounted s).mot.stopReason = s.mot.stopReason := rfl
@[simp] theorem pulseCounted_mot_ignoreCount (s : State) : (pulseCounted s).mot.ignoreCount = s.mot.ignoreCount := rfl
@[simp] theorem pulseCounted_mot_wdtArmed (s : State) : (pulseCounted s).mot.wdtArmed = s.mot.wdtArmed := rfl
@[simp] theorem pulseCounted_mot_wdtDeadline (s : State) : (pulseCounted s).mot.wdtDeadline = s.mot.wdtDeadline := rfl
@[simp] theorem pulseCounted_mot_eyeLevel (s : State) : (pulseCounted s).mot.eyeLevel = s.mot.eyeLevel := rfl
@[simp] theorem pulseCounted_mot_eyeLastTime (s : State) : (pulseCounted s).mot.eyeLastTime = s.mot.eyeLastTime := rfl
@[simp] theorem pulseCounted_mot_lastPulseTime (s : State) :
    (pulseCounted s).mot.lastPulseTime = s.mot.lastPulseTime := rfl
@[simp] theorem pulseCounted_mot_settleCount (s : State) : (pulseCounted s).mot.settleCount = s.mot.settleCount := rfl

@[simp] theorem coastPulse_ctl (s : State) : (coastPulse s).ctl = s.ctl := rfl
@[simp] theorem coastPulse_frm (s : State) : (coastPulse s).frm = s.frm := rfl
@[simp] theorem coastPulse_spi (s : State) : (coastPulse s).spi = s.spi := rfl
@[simp] theorem coastPulse_sys (s : State) : (coastPulse s).sys = s.sys := rfl
@[simp] theorem coastPulse_nv (s : State) : (coastPulse s).nv = s.nv := rfl
@[simp] theorem coastPulse_cfg (s : State) : (coastPulse s).cfg = s.cfg := rfl
@[simp] theorem coastPulse_hist (s : State) : (coastPulse s).hist = s.hist := rfl
@[simp] theorem coastPulse_res (s : State) : (coastPulse s).res = s.res := rfl
@[simp] theorem coastPulse_env (s : State) : (coastPulse s).env = s.env := rfl
@[simp] theorem coastPulse_mot_direction (s : State) : (coastPulse s).mot.direction = s.mot.direction := rfl
@[simp] theorem coastPulse_mot_lastDir (s : State) : (coastPulse s).mot.lastDir = s.mot.lastDir := rfl
@[simp] theorem coastPulse_mot_positionPulses (s : State) :
    (coastPulse s).mot.positionPulses = s.mot.positionPulses := rfl
@[simp] theorem coastPulse_mot_maxPulses (s : State) : (coastPulse s).mot.maxPulses = s.mot.maxPulses := rfl
@[simp] theorem coastPulse_mot_targetPulses (s : State) : (coastPulse s).mot.targetPulses = s.mot.targetPulses := rfl
@[simp] theorem coastPulse_mot_calibrationStep (s : State) :
    (coastPulse s).mot.calibrationStep = s.mot.calibrationStep := rfl
@[simp] theorem coastPulse_mot_pwmDuty (s : State) : (coastPulse s).mot.pwmDuty = s.mot.pwmDuty := rfl
@[simp] theorem coastPulse_mot_overshootPulses (s : State) :
    (coastPulse s).mot.overshootPulses = satInc s.mot.overshootPulses := rfl
@[simp] theorem coastPulse_mot_stopReason (s : State) : (coastPulse s).mot.stopReason = s.mot.stopReason := rfl
@[simp] theorem coastPulse_mot_ignoreCount (s : State) : (coastPulse s).mot.ignoreCount = s.mot.ignoreCount := rfl
@[simp] theorem coastPulse_mot_wdtArmed (s : State) : (coastPulse s).mot.wdtArmed = s.mot.wdtArmed := rfl
@[simp] theorem coastPulse_mot_wdtDeadline (s : State) :
    (coastPulse s).mot.wdtDeadline = s.sys.now + wdtReload s := rfl
@[simp] theorem coastPulse_mot_eyeLevel (s : State) : (coastPulse s).mot.eyeLevel = s.mot.eyeLevel := rfl
@[simp] theorem coastPulse_mot_eyeLastTime (s : State) : (coastPulse s).mot.eyeLastTime = s.mot.eyeLastTime := rfl
@[simp] theorem coastPulse_mot_lastPulseTime (s : State) :
    (coastPulse s).mot.lastPulseTime = s.mot.lastPulseTime := rfl
@[simp] theorem coastPulse_mot_settleCount (s : State) : (coastPulse s).mot.settleCount = s.mot.settleCount := rfl

@[simp] theorem motTimerPulse_ctl (s : State) (q : U16) : (motTimerPulse s q).ctl = s.ctl := by simp only [motTimerPulse]
@[simp] theorem motTimerPulse_frm (s : State) (q : U16) : (motTimerPulse s q).frm = s.frm := by simp only [motTimerPulse]
@[simp] theorem motTimerPulse_spi (s : State) (q : U16) : (motTimerPulse s q).spi = s.spi := by simp only [motTimerPulse]
@[simp] theorem motTimerPulse_sys (s : State) (q : U16) : (motTimerPulse s q).sys = s.sys := by simp only [motTimerPulse]
@[simp] theorem motTimerPulse_nv (s : State) (q : U16) : (motTimerPulse s q).nv = s.nv := by simp only [motTimerPulse]
@[simp] theorem motTimerPulse_cfg (s : State) (q : U16) : (motTimerPulse s q).cfg = s.cfg := by simp only [motTimerPulse]
@[simp] theorem motTimerPulse_hist (s : State) (q : U16) : (motTimerPulse s q).hist = s.hist := by simp only [motTimerPulse]
@[simp] theorem motTimerPulse_res (s : State) (q : U16) : (motTimerPulse s q).res = s.res := by simp only [motTimerPulse]
@[simp] theorem motTimerPulse_env (s : State) (q : U16) : (motTimerPulse s q).env = s.env := by simp only [motTimerPulse]
@[simp] theorem motTimerPulse_mot_direction (s : State) (q : U16) :
    (motTimerPulse s q).mot.direction = s.mot.direction := by simp only [motTimerPulse]
@[simp] theorem motTimerPulse_mot_lastDir (s : State) (q : U16) :
    (motTimerPulse s q).mot.lastDir = s.mot.lastDir := by simp only [motTimerPulse]
@[simp] theorem motTimerPulse_mot_positionPulses (s : State) (q : U16) :
    (motTimerPulse s q).mot.positionPulses = s.mot.positionPulses := by simp only [motTimerPulse]
@[simp] theorem motTimerPulse_mot_maxPulses (s : State) (q : U16) :
    (motTimerPulse s q).mot.maxPulses = s.mot.maxPulses := by simp only [motTimerPulse]
@[simp] theorem motTimerPulse_mot_targetPulses (s : State) (q : U16) :
    (motTimerPulse s q).mot.targetPulses = s.mot.targetPulses := by simp only [motTimerPulse]
@[simp] theorem motTimerPulse_mot_calibrationStep (s : State) (q : U16) :
    (motTimerPulse s q).mot.calibrationStep = s.mot.calibrationStep := by simp only [motTimerPulse]
@[simp] theorem motTimerPulse_mot_overshootPulses (s : State) (q : U16) :
    (motTimerPulse s q).mot.overshootPulses = s.mot.overshootPulses := by simp only [motTimerPulse]
@[simp] theorem motTimerPulse_mot_stopReason (s : State) (q : U16) :
    (motTimerPulse s q).mot.stopReason = s.mot.stopReason := by simp only [motTimerPulse]
@[simp] theorem motTimerPulse_mot_ignoreCount (s : State) (q : U16) :
    (motTimerPulse s q).mot.ignoreCount = s.mot.ignoreCount := by simp only [motTimerPulse]
@[simp] theorem motTimerPulse_mot_wdtArmed (s : State) (q : U16) :
    (motTimerPulse s q).mot.wdtArmed = s.mot.wdtArmed := by simp only [motTimerPulse]
@[simp] theorem motTimerPulse_mot_wdtDeadline (s : State) (q : U16) :
    (motTimerPulse s q).mot.wdtDeadline = s.mot.wdtDeadline := by simp only [motTimerPulse]
@[simp] theorem motTimerPulse_mot_eyeLevel (s : State) (q : U16) :
    (motTimerPulse s q).mot.eyeLevel = s.mot.eyeLevel := by simp only [motTimerPulse]
@[simp] theorem motTimerPulse_mot_eyeLastTime (s : State) (q : U16) :
    (motTimerPulse s q).mot.eyeLastTime = s.mot.eyeLastTime := by simp only [motTimerPulse]
@[simp] theorem motTimerPulse_mot_lastPulseTime (s : State) (q : U16) :
    (motTimerPulse s q).mot.lastPulseTime = s.mot.lastPulseTime := by simp only [motTimerPulse]
@[simp] theorem motTimerPulse_mot_settleCount (s : State) (q : U16) :
    (motTimerPulse s q).mot.settleCount = s.mot.settleCount := by simp only [motTimerPulse]

@[simp] theorem motUnmount_frm (s : State) : (motUnmount s).frm = s.frm := rfl
@[simp] theorem motUnmount_spi (s : State) : (motUnmount s).spi = s.spi := rfl
@[simp] theorem motUnmount_nv (s : State) : (motUnmount s).nv = s.nv := rfl
@[simp] theorem motUnmount_cfg (s : State) : (motUnmount s).cfg = s.cfg := rfl
@[simp] theorem motUnmount_hist (s : State) : (motUnmount s).hist = s.hist := rfl
@[simp] theorem motUnmount_res (s : State) : (motUnmount s).res = s.res := rfl
@[simp] theorem motUnmount_env (s : State) : (motUnmount s).env = s.env := rfl

@[simp] theorem motFail_frm (s : State) : (motFail s).frm = s.frm := rfl
@[simp] theorem motFail_spi (s : State) : (motFail s).spi = s.spi := rfl
@[simp] theorem motFail_sys (s : State) : (motFail s).sys = s.sys := rfl
@[simp] theorem motFail_nv (s : State) : (motFail s).nv = s.nv := rfl
@[simp] theorem motFail_cfg (s : State) : (motFail s).cfg = s.cfg := rfl
@[simp] theorem motFail_hist (s : State) : (motFail s).hist = s.hist := rfl
@[simp] theorem motFail_res (s : State) : (motFail s).res = s.res := rfl
@[simp] theorem motFail_env (s : State) : (motFail s).env = s.env := rfl

@[simp] theorem motorWdt_ctl (s : State) : (motorWdt s).ctl = s.ctl := rfl
@[simp] theorem motorWdt_frm (s : State) : (motorWdt s).frm = s.frm := rfl
@[simp] theorem motorWdt_spi (s : State) : (motorWdt s).spi = s.spi := rfl
@[simp] theorem motorWdt_nv (s : State) : (motorWdt s).nv = s.nv := rfl
@[simp] theorem motorWdt_cfg (s : State) : (motorWdt s).cfg = s.cfg := rfl
@[simp] theorem motorWdt_hist (s : State) : (motorWdt s).hist = s.hist := rfl
@[simp] theorem motorWdt_res (s : State) : (motorWdt s).res = s.res := rfl
@[simp] theorem motorWdt_env (s : State) : (motorWdt s).env = s.env := rfl

@[simp] theorem setMode_ctl (s : State) (m : Mode) (b : Bool) : (setMode s m b).ctl = s.ctl := rfl
@[simp] theorem setMode_mot (s : State) (m : Mode) (b : Bool) : (setMode s m b).mot = s.mot := rfl
@[simp] theorem setMode_spi (s : State) (m : Mode) (b : Bool) : (setMode s m b).spi = s.spi := rfl
@[simp] theorem setMode_nv (s : State) (m : Mode) (b : Bool) : (setMode s m b).nv = s.nv := rfl
@[simp] theorem setMode_cfg (s : State) (m : Mode) (b : Bool) : (setMode s m b).cfg = s.cfg := rfl
@[simp] theorem setMode_hist (s : State) (m : Mode) (b : Bool) : (setMode s m b).hist = s.hist := rfl
@[simp] theorem setMode_res (s : State) (m : Mode) (b : Bool) : (setMode s m b).res = s.res := rfl
@[simp] theorem setMode_env (s : State) (m : Mode) (b : Bool) : (setMode s m b).env = s.env := rfl
@[simp] theorem setMode_frm_mode (s : State) (m : Mode) (b : Bool) : (setMode s m b).frm.mode = m := rfl
@[simp] theorem setMode_frm_frameBuffer (s : State) (m : Mode) (b : Bool) :
    (setMode s m b).frm.frameBuffer = s.frm.frameBuffer := rfl
@[simp] theorem setMode_frm_frameSize (s : State) (m : Mode) (b : Bool) :
    (setMode s m b).frm.frameSize = s.frm.frameSize := rfl
@[simp] theorem setMode_frm_framePos (s : State) (m : Mode) (b : Bool) :
    (setMode s m b).frm.framePos = s.frm.framePos := rfl
@[simp] theorem setMode_sys_taskFlags (s : State) (m : Mode) (b : Bool) :
    (setMode s m b).sys.taskFlags = s.sys.taskFlags := rfl
@[simp] theorem setMode_sys_gie (s : State) (m : Mode) (b : Bool) : (setMode s m b).sys.gie = s.sys.gie := rfl
@[simp] theorem setMode_sys_rfmIrqEn (s : State) (m : Mode) (b : Bool) : (setMode s m b).sys.rfmIrqEn = b := rfl
@[simp] theorem setMode_sys_inIsr (s : State) (m : Mode) (b : Bool) : (setMode s m b).sys.inIsr = s.sys.inIsr := rfl
@[simp] theorem setMode_sys_sleeping (s : State) (m : Mode) (b : Bool) :
    (setMode s m b).sys.sleeping = s.sys.sleeping := rfl
@[simp] theorem setMode_sys_booted (s : State) (m : Mode) (b : Bool) :
    (setMode s m b).sys.booted = s.sys.booted := rfl
@[simp] theorem setMode_sys_halted (s : State) (m : Mode) (b : Bool) :
    (setMode s m b).sys.halted = s.sys.halted := rfl
@[simp] theorem setMode_sys_fault (s : State) (m : Mode) (b : Bool) : (setMode s m b).sys.fault = s.sys.fault := rfl
@[simp] theorem setMode_sys_refused (s : State) (m : Mode) (b : Bool) :
    (setMode s m b).sys.refused = s.sys.refused := rfl
@[simp] theorem setMode_sys_now (s : State) (m : Mode) (b : Bool) : (setMode s m b).sys.now = s.sys.now := rfl

@[simp] theorem setFramePos_ctl (s : State) (v : U8) : (setFramePos s v).ctl = s.ctl := rfl
@[simp] theorem setFramePos_mot (s : State) (v : U8) : (setFramePos s v).mot = s.mot := rfl
@[simp] theorem setFramePos_spi (s : State) (v : U8) : (setFramePos s v).spi = s.spi := rfl
@[simp] theorem setFramePos_sys (s : State) (v : U8) : (setFramePos s v).sys = s.sys := rfl
@[simp] theorem setFramePos_nv (s : State) (v : U8) : (setFramePos s v).nv = s.nv := rfl
@[simp] theorem setFramePos_cfg (s : State) (v : U8) : (setFramePos s v).cfg = s.cfg := rfl
@[simp] theorem setFramePos_hist (s : State) (v : U8) : (setFramePos s v).hist = s.hist := rfl
@[simp] theorem setFramePos_res (s : State) (v : U8) : (setFramePos s v).res = s.res := rfl
@[simp] theorem setFramePos_env (s : State) (v : U8) : (setFramePos s v).env = s.env := rfl
@[simp] theorem setFramePos_frm_mode (s : State) (v : U8) : (setFramePos s v).frm.mode = s.frm.mode := rfl
@[simp] theorem setFramePos_frm_frameBuffer (s : State) (v : U8) :
    (setFramePos s v).frm.frameBuffer = s.frm.frameBuffer := rfl
@[simp] theorem setFramePos_frm_frameSize (s : State) (v : U8) :
    (setFramePos s v).frm.frameSize = s.frm.frameSize := rfl
@[simp] theorem setFramePos_frm_framePos (s : State) (v : U8) : (setFramePos s v).frm.framePos = v := rfl

@[simp] theorem nextFramePos_ctl (s : State) : (nextFramePos s).ctl = s.ctl := by simp only [nextFramePos, setFramePos]
@[simp] theorem nextFramePos_mot (s : State) : (nextFramePos s).mot = s.mot := by simp only [nextFramePos, setFramePos]
@[simp] theorem nextFramePos_spi (s : State) : (nextFramePos s).spi = s.spi := by simp only [nextFramePos, setFramePos]
@[simp] theorem nextFramePos_sys (s : State) : (nextFramePos s).sys = s.sys := by simp only [nextFramePos, setFramePos]
@[simp] theorem nextFramePos_nv (s : State) : (nextFramePos s).nv = s.nv := by simp only [nextFramePos, setFramePos]
@[simp] theorem nextFramePos_cfg (s : State) : (nextFramePos s).cfg = s.cfg := by simp only [nextFramePos, setFramePos]
@[simp] theorem nextFramePos_hist (s : State) : (nextFramePos s).hist = s.hist := by simp only [nextFramePos, setFramePos]
@[simp] theorem nextFramePos_res (s : State) : (nextFramePos s).res = s.res := by simp only [nextFramePos, setFramePos]
@[simp] theorem nextFramePos_env (s : State) : (nextFramePos s).env = s.env := by simp only [nextFramePos, setFramePos]
@[simp] theorem nextFramePos_frm_mode (s : State) : (nextFramePos s).frm.mode = s.frm.mode := by simp only [nextFramePos, setFramePos]
@[simp] theorem nextFramePos_frm_frameBuffer (s : State) : (nextFramePos s).frm.frameBuffer = s.frm.frameBuffer := by simp only [nextFramePos, setFramePos]
@[simp] theorem nextFramePos_frm_frameSize (s : State) : (nextFramePos s).frm.frameSize = s.frm.frameSize := by simp only [nextFramePos, setFramePos]
@[simp] theorem nextFramePos_frm_framePos (s : State) :
    (nextFramePos s).frm.framePos = toU8 ((s.frm.framePos.toNat : Int) + 1) := by
  simp only [nextFramePos, setFramePos]

@[simp] theorem setRfmIrq_ctl (s : State) (b : Bool) : (setRfmIrq s b).ctl = s.ctl := rfl
@[simp] theorem setRfmIrq_mot (s : State) (b : Bool) : (setRfmIrq s b).mot = s.mot := rfl
@[simp] theorem setRfmIrq_frm (s : State) (b : Bool) : (setRfmIrq s b).frm = s.frm := rfl
@[simp] theorem setRfmIrq_spi (s : State) (b : Bool) : (setRfmIrq s b).spi = s.spi := rfl
@[simp] theorem setRfmIrq_nv (s : State) (b : Bool) : (setRfmIrq s b).nv = s.nv := rfl
@[simp] theorem setRfmIrq_cfg (s : State) (b : Bool) : (setRfmIrq s b).cfg = s.cfg := rfl
@[simp] theorem setRfmIrq_hist (s : State) (b : Bool) : (setRfmIrq s b).hist = s.hist := rfl
@[simp] theorem setRfmIrq_res (s : State) (b : Bool) : (setRfmIrq s b).res = s.res := rfl
@[simp] theorem setRfmIrq_env (s : State) (b : Bool) : (setRfmIrq s b).env = s.env := rfl
@[simp] theorem setRfmIrq_sys_taskFlags (s : State) (b : Bool) :
    (setRfmIrq s b).sys.taskFlags = s.sys.taskFlags := rfl
@[simp] theorem setRfmIrq_sys_gie (s : State) (b : Bool) : (setRfmIrq s b).sys.gie = s.sys.gie := rfl
@[simp] theorem setRfmIrq_sys_rfmIrqEn (s : State) (b : Bool) : (setRfmIrq s b).sys.rfmIrqEn = b := rfl
@[simp] theorem setRfmIrq_sys_inIsr (s : State) (b : Bool) : (setRfmIrq s b).sys.inIsr = s.sys.inIsr := rfl
@[simp] theorem setRfmIrq_sys_sleeping (s : State) (b : Bool) : (setRfmIrq s b).sys.sleeping = s.sys.sleeping := rfl
@[simp] theorem setRfmIrq_sys_booted (s : State) (b : Bool) : (setRfmIrq s b).sys.booted = s.sys.booted := rfl
@[simp] theorem setRfmIrq_sys_halted (s : State) (b : Bool) : (setRfmIrq s b).sys.halted = s.sys.halted := rfl
@[simp] theorem setRfmIrq_sys_fault (s : State) (b : Bool) : (setRfmIrq s b).sys.fault = s.sys.fault := rfl
@[simp] theorem setRfmIrq_sys_refused (s : State) (b : Bool) : (setRfmIrq s b).sys.refused = s.sys.refused := rfl
@[simp] theorem setRfmIrq_sys_now (s : State) (b : Bool) : (setRfmIrq s b).sys.now = s.sys.now := rfl

@[simp] theorem resetState_nv (s : State) : (resetState s).nv = s.nv := rfl
@[simp] theorem resetState_cfg (s : State) : (resetState s).cfg = s.cfg := rfl
@[simp] theorem resetState_res (s : State) : (resetState s).res = s.res := rfl

@[simp] theorem latch_ctl (s : State) (d : Delivery) : (latch d s).ctl = s.ctl := rfl
@[simp] theorem latch_mot (s : State) (d : Delivery) : (latch d s).mot = s.mot := rfl
@[simp] theorem latch_frm (s : State) (d : Delivery) : (latch d s).frm = s.frm := rfl
@[simp] theorem latch_spi (s : State) (d : Delivery) : (latch d s).spi = s.spi := rfl
@[simp] theorem latch_sys (s : State) (d : Delivery) : (latch d s).sys = s.sys := rfl
@[simp] theorem latch_nv (s : State) (d : Delivery) : (latch d s).nv = s.nv := rfl
@[simp] theorem latch_hist (s : State) (d : Delivery) : (latch d s).hist = s.hist := rfl
@[simp] theorem latch_res (s : State) (d : Delivery) : (latch d s).res = s.res := rfl

@[simp] theorem spiSend_hist (s : State) (w : U16) : (spiSend s w).hist = s.hist ++ [.spiWord w s.nextResponse] := rfl
@[simp] theorem State.withRes_res (s : State) (v : U16) : (s.withRes v).res = v := rfl
@[simp] theorem State.setErr_errorFlags (s : State) (m : U8) :
    (s.setErr m).ctl.errorFlags = s.ctl.errorFlags ||| m := rfl
@[simp] theorem State.clearErr_errorFlags (s : State) (m : U8) :
    (s.clearErr m).ctl.errorFlags = s.ctl.errorFlags &&& ~~~m := rfl
@[simp] theorem resetState_ctl (s : State) : (resetState s).ctl = resetCtl s.cfg.setpoint := rfl
@[simp] theorem resetState_mot (s : State) : (resetState s).mot = resetMot s.env.ports.eye := rfl
@[simp] theorem resetState_frm (s : State) : (resetState s).frm = resetFrm := rfl
@[simp] theorem resetState_spi (s : State) : (resetState s).spi = resetSpi := rfl
@[simp] theorem resetState_sys (s : State) : (resetState s).sys = resetSys := rfl
@[simp] theorem resetState_hist (s : State) : (resetState s).hist = [] := rfl

/-- `State.reset` is the power-up state of the vector configuration (rule R600). -/
theorem powerUp_reset : powerUp State.reset = State.reset := by decide

end Sys2Proof.Machine
end

