-- ==== Sys2Proof/Laws/Ops.lean ====
section
/-! SUPPORT. For each shared operation, one lemma that says once what it can do. -/

namespace Sys2Proof.Machine

/-! ## The frame buffer -/

@[simp] theorem Memory.read_nil (a : Nat) : Memory.read [] a = none := rfl

/-- A byte written is the byte read. -/
@[simp] theorem Memory.read_write_same (m : Memory) (a : Nat) (b : U8) : (m.write a b).read a = some b := by
  induction m with
  | nil => simp [Memory.write, Memory.read]
  | cons c m ih =>
    obtain ⟨k, v⟩ := c
    simp only [Memory.write]
    split
    · simp [Memory.read]
    · split
      · simp [Memory.read]
      · rename_i _ h
        simp [Memory.read, h, ih]

/-- A write leaves every other byte alone. -/
theorem Memory.read_write_other (m : Memory) {a x : Nat} (b : U8) (h : x ≠ a) : (m.write a b).read x = m.read x := by
  induction m with
  | nil => simp [Memory.write, Memory.read, h]
  | cons c m ih =>
    obtain ⟨k, v⟩ := c
    simp only [Memory.write]
    split
    · simp [Memory.read, h]
    · split
      · rename_i _ hk
        subst hk
        simp [Memory.read, h]
      · simp [Memory.read, ih]

/-- A write keeps the addresses rising above a bound it respects. -/
theorem Memory.risingFrom_write (m : Memory) (lo a : Nat) (b : U8) (ha : lo ≤ a)
    (h : Memory.risingFrom lo m = true) : Memory.risingFrom lo (m.write a b) = true := by
  induction m generalizing lo with
  | nil => simpa [Memory.write, Memory.risingFrom] using ha
  | cons c m ih =>
    obtain ⟨k, v⟩ := c
    simp only [Memory.risingFrom, Bool.and_eq_true, decide_eq_true_eq] at h
    simp only [Memory.write]
    split
    · simp only [Memory.risingFrom, Bool.and_eq_true, decide_eq_true_eq]
      exact ⟨ha, by omega, h.2⟩
    · split
      · rename_i _ hk
        subst hk
        simpa [Memory.risingFrom] using h
      · simp only [Memory.risingFrom, Bool.and_eq_true, decide_eq_true_eq]
        exact ⟨h.1, ih (k + 1) (by omega) h.2⟩

/-- A write keeps the canonical form. -/
theorem Memory.wf_write (m : Memory) (a : Nat) (b : U8) (h : m.wf = true) : (m.write a b).wf = true :=
  Memory.risingFrom_write m 0 a b (Nat.zero_le a) h

/-- The reset memory has the canonical form. -/
theorem Memory.wf_reset : State.reset.frm.frameBuffer.wf = true := rfl

/-- A buffer write either raises the range fault or stores one byte (rule R13). -/
theorem bufWrite_cases (s : State) (i v : U8) :
    (s.cfg.radio.bufCap.toNat ≤ i.toNat ∧ bufWrite s i v = .fault .bufRange i) ∨
    (i.toNat < s.cfg.radio.bufCap.toNat ∧
      bufWrite s i v = .done { s with frm := { s.frm with frameBuffer := s.frm.frameBuffer.write i.toNat v } }) := by
  unfold bufWrite
  split
  · exact .inl ⟨‹_›, rfl⟩
  · exact .inr ⟨by omega, rfl⟩

/-- No unwritten index: every byte of the range is written. -/
theorem Memory.firstUnwritten_none (m : Memory) (k n : Nat) (h : m.firstUnwritten k n = none) :
    ∀ x, k ≤ x → x < k + n → m.read x ≠ none := by
  induction n generalizing k with
  | zero => intro x h1 h2; omega
  | succ n ih =>
    intro x h1 h2
    unfold Memory.firstUnwritten at h
    split at h
    · cases h
    · rename_i hk
      by_cases hx : x = k
      · subst hx
        intro hc
        simp [hc] at hk
      · exact ih (k + 1) h x (by omega) (by omega)

/-- The index found is unwritten, in range, and every lower index is written (rule R452). -/
theorem Memory.firstUnwritten_some (m : Memory) (k n j : Nat) (h : m.firstUnwritten k n = some j) :
    k ≤ j ∧ j < k + n ∧ m.read j = none ∧ ∀ x, k ≤ x → x < j → m.read x ≠ none := by
  induction n generalizing k with
  | zero => simp [Memory.firstUnwritten] at h
  | succ n ih =>
    unfold Memory.firstUnwritten at h
    split at h
    · rename_i hk
      cases h
      exact ⟨Nat.le_refl _, by omega, by simpa using hk, fun x h1 h2 => absurd h1 (by omega)⟩
    · rename_i hk
      obtain ⟨h1, h2, h3, h4⟩ := ih (k + 1) h
      refine ⟨by omega, by omega, h3, fun x hx hj => ?_⟩
      by_cases hxk : x = k
      · subst hxk
        intro hc
        simp [hc] at hk
      · exact h4 x (by omega) hj

/-! ## The bus -/

/-- After a word the bus rests selected, clock low, the data pin at the last bit (rule R400). -/
@[simp] theorem spiSend_spi (s : State) (w : U16) :
    (spiSend s w).spi = { nSel := false, sck := false, sdi := w.getLsbD 0 } := rfl

@[simp] theorem spiSendAll_nil (s : State) : spiSendAll s [] = s := rfl

@[simp] theorem spiSendAll_cons (s : State) (w : U16) (ws : List U16) :
    spiSendAll s (w :: ws) = spiSendAll (spiSend s w) ws := rfl

/-- Sending words touches the pins, the history and the draws only. -/
theorem spiSendAll_keeps (ws : List U16) (s : State) :
    (spiSendAll s ws).ctl = s.ctl ∧ (spiSendAll s ws).mot = s.mot ∧ (spiSendAll s ws).frm = s.frm ∧
    (spiSendAll s ws).sys = s.sys ∧ (spiSendAll s ws).nv = s.nv ∧ (spiSendAll s ws).cfg = s.cfg ∧
    (spiSendAll s ws).res = s.res ∧ (spiSendAll s ws).env.script = s.env.script ∧
    (spiSendAll s ws).env.issuer = s.env.issuer ∧ (spiSendAll s ws).env.report = s.env.report := by
  induction ws generalizing s with
  | nil => simp
  | cons w ws ih => simpa using ih (spiSend s w)

/-- The words of a history entry list. -/
theorem spiSendAll_words (ws : List U16) (s : State) :
    ∃ rs : List U16, rs.length = ws.length ∧
      (spiSendAll s ws).hist = s.hist ++ (ws.zip rs).map fun p => .spiWord p.1 p.2 := by
  induction ws generalizing s with
  | nil => exact ⟨[], rfl, by simp⟩
  | cons w ws ih =>
    obtain ⟨rs, h1, h2⟩ := ih (spiSend s w)
    exact ⟨s.nextResponse :: rs, by simp [h1], by simp [h2]⟩

/-! ## Faults, refusals and the gate -/

@[simp] theorem settle_done (s t : State) : settle s (.done t) = t := rfl
@[simp] theorem settle_fault (s : State) (c : FaultCode) (i : U8) : settle s (.fault c i) = recordFault s c i := rfl
@[simp] theorem settle_refuse (s : State) (r : RefuseReason) : settle s (.refuse r) = markRefused s r := rfl
@[simp] theorem Effect.map_done (f : State → State) (s : State) : (Effect.done s).map f = .done (f s) := rfl
@[simp] theorem Effect.map_fault (f : State → State) (c : FaultCode) (i : U8) :
    (Effect.fault c i).map f = .fault c i := rfl
@[simp] theorem Effect.map_refuse (f : State → State) (r : RefuseReason) :
    (Effect.refuse r).map f = .refuse r := rfl

@[simp] theorem firstFailure_nil : firstFailure [] = none := rfl

@[simp] theorem firstFailure_cons (b : Bool) (r : RefuseReason) (l : List (Bool × RefuseReason)) :
    firstFailure ((b, r) :: l) = if b then some r else firstFailure l := rfl

/-- The gate leaves a state that is not live as it is. -/
theorem passGate_not_live (s : State) (l : List (Bool × RefuseReason)) (e : Effect) (h : s.live = false) :
    passGate s l e = s := by
  simp [passGate, h]

/-- The gate passes an operation whose checks hold. -/
theorem passGate_pass (s : State) (l : List (Bool × RefuseReason)) (e : Effect) (h : s.live = true)
    (hc : cfgProblem s.cfg = none) (hf : firstFailure l = none) : passGate s l e = settle s e := by
  simp [passGate, h, hc, hf]

/-- All that the gate can answer: the state itself, a refusal mark, or the end of the operation. -/
theorem passGate_cases (s : State) (l : List (Bool × RefuseReason)) (e : Effect) :
    passGate s l e = s ∨ (∃ r, passGate s l e = markRefused s r) ∨
    (s.live = true ∧ cfgProblem s.cfg = none ∧ firstFailure l = none ∧ passGate s l e = settle s e) := by
  unfold passGate
  split
  · split
    · exact .inr (.inl ⟨_, rfl⟩)
    · split
      · exact .inr (.inl ⟨_, rfl⟩)
      · exact .inr (.inr ⟨‹_›, ‹_›, ‹_›, rfl⟩)
  · exact .inl rfl

/-- A host command in a state that admits it is its own pseudocode on the woken state. -/
theorem hostCommand_pass (s : State) (own : State → Effect) (h : s.live = true) (hc : cfgProblem s.cfg = none)
    (hi : s.env.issuer ≠ .source) (hr : s.sys.inIsr = false) (hb : s.sys.booted = true) :
    hostCommand s own = settle s (own (wake s)) := by
  refine passGate_pass s _ _ h hc ?_
  simp [notTaskContext, hi, hr, hb]

/-- A dispatched task whose flag is pending is its own pseudocode with the flag cleared. -/
theorem dispatchTask_pass (s : State) (t : TaskFlag) (own : State → Effect) (h : s.live = true)
    (hc : cfgProblem s.cfg = none) (hi : s.env.issuer ≠ .source) (hr : s.sys.inIsr = false)
    (hb : s.sys.booted = true) (hp : s.pending t = true) (hs : s.sys.sleeping = false) :
    dispatchTask s t own = settle s (own (s.clearTask t)) := by
  refine passGate_pass s _ _ h hc ?_
  simp [notTaskContext, hi, hr, hb, hp, hs]

/-- An internal operation issued by another operation is its own pseudocode. -/
theorem internalOp_pass (s : State) (own : State → State) (h : s.live = true) (hc : cfgProblem s.cfg = none)
    (hi : s.env.issuer = .operation) (hb : s.sys.booted = true) : internalOp s own = own s := by
  refine passGate_pass s _ _ h hc ?_
  simp [hi, hb]

/-- An interrupt event that is enabled is entry, handler, return. -/
theorem interruptEvent_taken (s : State) (c : Bool) (handler : State → Effect) (h : s.live = true)
    (hc : cfgProblem s.cfg = none) (hi : s.env.issuer = .source) (hg : s.sys.gie = true) (hcond : c = true)
    (hb : s.sys.booted = true) :
    interruptEvent s c handler = settle s ((handler (isrEntry s)).map isrReturn) := by
  simp [interruptEvent, passGate, h, hc, hi, hg, hcond, hb]

/-- An interrupt event delivered while not enabled changes nothing. -/
theorem interruptEvent_not_taken (s : State) (c : Bool) (handler : State → Effect) (hi : s.env.issuer = .source)
    (h : (s.live && s.sys.gie && c) = false) : interruptEvent s c handler = s := by
  unfold interruptEvent
  simp [hi, h]

/-! ## Numbers that fit -/

theorem toU8_fits (v : Int) (h0 : 0 ≤ v) (h1 : v ≤ 255) : toU8 v = BitVec.ofInt 8 v := by
  simp [toU8, h0, h1]

theorem toU8_toNat (v : Int) (h0 : 0 ≤ v) (h1 : v ≤ 255) : ((toU8 v).toNat : Int) = v := by
  rw [toU8_fits v h0 h1, BitVec.toNat_ofInt]
  omega

theorem toU16_toNat (v : Int) (h0 : 0 ≤ v) (h1 : v ≤ 65535) : ((toU16 v).toNat : Int) = v := by
  simp only [toU16, h0, h1, and_self, if_true, BitVec.toNat_ofInt]
  omega

theorem toI8_toInt (v : Int) (h0 : -128 ≤ v) (h1 : v ≤ 127) : (toI8 v).toInt = v := by
  simp only [toI8, h0, h1, and_self, if_true, BitVec.toInt_ofInt]
  simp only [Int.bmod_def]
  omega

theorem toI16_toInt (v : Int) (h0 : -32768 ≤ v) (h1 : v ≤ 32767) : (toI16 v).toInt = v := by
  simp only [toI16, h0, h1, and_self, if_true, BitVec.toInt_ofInt]
  simp only [Int.bmod_def]
  omega

theorem toI32_toInt (v : Int) (h0 : -2147483648 ≤ v) (h1 : v ≤ 2147483647) : (toI32 v).toInt = v := by
  simp only [toI32, h0, h1, and_self, if_true, BitVec.toInt_ofInt]
  simp only [Int.bmod_def]
  omega

theorem clamp_bounds (v lo hi : Int) (h : lo ≤ hi) : lo ≤ clamp v lo hi ∧ clamp v lo hi ≤ hi := by
  unfold clamp
  omega

/-- The error lies in its clamp (rule R222). -/
theorem pidError_bounds (eff : U8) (t : I16) : -1200 ≤ pidError eff t ∧ pidError eff t ≤ 1200 :=
  clamp_bounds _ _ _ (by decide)

end Sys2Proof.Machine
end

