-- ==== Sys2Proof/Laws/PerInstr.lean ====
section
/-! SUPPORT. One lemma per operation: its words are of the encoding that its unit uses (rules R130, R133, R136). -/

namespace Sys2Proof.Laws

/-- An RFM12 command is encoded in 16 bits, every other operation in 24 (rule R130). -/
def WordKind.Statement (i : Instr) : Prop :=
  match encode i with
  | .rfm12 _ => i.isRfm12 = true
  | .cmd24 _ => i.isRfm12 = false

theorem WordKind.sysReset : WordKind.Statement .sysReset := rfl
theorem WordKind.sysBoot : WordKind.Statement .sysBoot := rfl
theorem WordKind.sysCli : WordKind.Statement .sysCli := rfl
theorem WordKind.sysSei : WordKind.Statement .sysSei := rfl
theorem WordKind.sysSleep : WordKind.Statement .sysSleep := rfl
theorem WordKind.ctlTick : WordKind.Statement .ctlTick := rfl
theorem WordKind.ctlUpdate : WordKind.Statement .ctlUpdate := rfl
theorem WordKind.ctlWindowSample : WordKind.Statement .ctlWindowSample := rfl
theorem WordKind.ctlWindowHw : WordKind.Statement .ctlWindowHw := rfl
theorem WordKind.ctlBattery : WordKind.Statement .ctlBattery := rfl
theorem WordKind.ctlSchedFollow : WordKind.Statement .ctlSchedFollow := rfl
theorem WordKind.ctlChangeMode (k : U8) : WordKind.Statement (.ctlChangeMode k) := rfl
theorem WordKind.ctlTempChangeInc (d : I8) : WordKind.Statement (.ctlTempChangeInc d) := rfl
theorem WordKind.ctlSetWanted (v : U8) : WordKind.Statement (.ctlSetWanted v) := rfl
theorem WordKind.ctlErrAck (m : U8) : WordKind.Statement (.ctlErrAck m) := rfl
theorem WordKind.motGoto (p : U8) : WordKind.Statement (.motGoto p) := rfl
theorem WordKind.motUpdateCal (r : U8) : WordKind.Statement (.motUpdateCal r) := rfl
theorem WordKind.motGetPosPercent : WordKind.Statement .motGetPosPercent := rfl
theorem WordKind.motTimerPulse (q : U16) : WordKind.Statement (.motTimerPulse q) := rfl
theorem WordKind.motTimerStop : WordKind.Statement .motTimerStop := rfl
theorem WordKind.spiTransfer16 (w : U16) : WordKind.Statement (.spiTransfer16 w) := rfl
theorem WordKind.rfmInit : WordKind.Statement .rfmInit := rfl
theorem WordKind.frmTaskAck : WordKind.Statement .frmTaskAck := rfl
theorem WordKind.frmStop : WordKind.Statement .frmStop := rfl
theorem WordKind.frmBufWrite (i b : U8) : WordKind.Statement (.frmBufWrite i b) := rfl
theorem WordKind.frmStartTx (n : U8) : WordKind.Statement (.frmStartTx n) := rfl
theorem WordKind.frmTxSlot : WordKind.Statement .frmTxSlot := rfl
theorem WordKind.frmTxDone (k : U8) : WordKind.Statement (.frmTxDone k) := rfl
theorem WordKind.frmStartRx : WordKind.Statement .frmStartRx := rfl
theorem WordKind.frmRxReset : WordKind.Statement .frmRxReset := rfl
theorem WordKind.frmBufRead (i : U8) : WordKind.Statement (.frmBufRead i) := rfl
theorem WordKind.evTmrTick : WordKind.Statement .evTmrTick := rfl
theorem WordKind.evRtcSecond : WordKind.Statement .evRtcSecond := rfl
theorem WordKind.evEyeEdge (level : BitVec 1) : WordKind.Statement (.evEyeEdge level) := rfl
theorem WordKind.evMotorWdt : WordKind.Statement .evMotorWdt := rfl
theorem WordKind.evRfmEdge : WordKind.Statement .evRfmEdge := rfl
theorem WordKind.rfm12StatusRead (ignored : BitVec 15) : WordKind.Statement (.rfm12StatusRead ignored) := rfl
theorem WordKind.rfm12Config (el ef : BitVec 1) (b : BitVec 2) (x : BitVec 4) :
    WordKind.Statement (.rfm12Config el ef b x) := rfl
theorem WordKind.rfm12PowerMgmt (er ebb et es ex eb ew dc : BitVec 1) :
    WordKind.Statement (.rfm12PowerMgmt er ebb et es ex eb ew dc) := rfl
theorem WordKind.rfm12Frequency (f : BitVec 12) : WordKind.Statement (.rfm12Frequency f) := rfl
theorem WordKind.rfm12DataRate (cs : BitVec 1) (r : BitVec 7) : WordKind.Statement (.rfm12DataRate cs r) := rfl
theorem WordKind.rfm12RxControl (p16 : BitVec 1) (d : BitVec 2) (bw : BitVec 3) (g : BitVec 2) (r : BitVec 3) :
    WordKind.Statement (.rfm12RxControl p16 d bw g r) := rfl
theorem WordKind.rfm12DataFilter (al ml sf : BitVec 1) (f : BitVec 3) :
    WordKind.Statement (.rfm12DataFilter al ml sf f) := rfl
theorem WordKind.rfm12FifoReset (f : BitVec 4) (sp al ff dr : BitVec 1) :
    WordKind.Statement (.rfm12FifoReset f sp al ff dr) := rfl
theorem WordKind.rfm12SyncPattern (b : BitVec 8) : WordKind.Statement (.rfm12SyncPattern b) := rfl
theorem WordKind.rfm12FifoRead : WordKind.Statement .rfm12FifoRead := rfl
theorem WordKind.rfm12Afc (a rl : BitVec 2) (st fi oe en : BitVec 1) :
    WordKind.Statement (.rfm12Afc a rl st fi oe en) := rfl
theorem WordKind.rfm12TxConfig (mp : BitVec 1) (m : BitVec 4) (p : BitVec 3) :
    WordKind.Statement (.rfm12TxConfig mp m p) := rfl
theorem WordKind.rfm12Pll (ob : BitVec 2) (opts : BitVec 5) : WordKind.Statement (.rfm12Pll ob opts) := rfl
theorem WordKind.rfm12TxWrite (t : BitVec 8) : WordKind.Statement (.rfm12TxWrite t) := rfl
theorem WordKind.rfm12WakeupTimer (r : BitVec 5) (m : BitVec 8) : WordKind.Statement (.rfm12WakeupTimer r m) := rfl
theorem WordKind.rfm12LowDutyCycle (d : BitVec 7) (en : BitVec 1) :
    WordKind.Statement (.rfm12LowDutyCycle d en) := rfl
theorem WordKind.rfm12LbdClockDiv (d : BitVec 3) (v : BitVec 4) : WordKind.Statement (.rfm12LbdClockDiv d v) := rfl

end Sys2Proof.Laws
end

