-- ==== Sys2Proof/Machine/Pseudo.lean ====
section
/-! DEFINITION. The pseudo-operations of rule R144, the on-air frame of rule R140 and the move that issues an operation
(rule R143). No step uses them: they name lists of operations and of bytes that a host sends. -/

namespace Sys2Proof.Machine

/-- `RFM_STATUS` (rule R144). -/
def pseudoStatus : Instr := .spiTransfer16 0x0000

/-- `RFM_WRITE b` (rules R144, R401). -/
def pseudoWrite (b : U8) : Instr := .spiTransfer16 (0xB800 ||| b.setWidth 16)

/-- `RFM_READ_FIFO` (rules R144, R402). -/
def pseudoReadFifo : Instr := .spiTransfer16 0xB000

/-- The buffer writes of `FRM_SEND`, from index `k` on (rule R144). -/
def pseudoFill : Nat → List U8 → List Instr
  | _, [] => []
  | k, b :: bs => .frmBufWrite (BitVec.ofNat 8 k) b :: pseudoFill (k + 1) bs

/-- `FRM_SEND n, b0, …` (rule R144). -/
def pseudoSend (bytes : List U8) : List Instr := pseudoFill 0 bytes ++ [.frmStartTx (BitVec.ofNat 8 bytes.length)]

/-- `WAIT_TICKS k` (rule R144). -/
def pseudoWaitTicks (k : Nat) : List Instr := List.replicate k .evTmrTick

/-- The on-air frame: preamble, sync pattern, length, sender address, payload, MAC, two dummy bytes (rule R140). -/
def onAirFrame (length address : U8) (payload : List U8) (mac : Vector U8 4) (dummy0 dummy1 : U8) : List U8 :=
  [0xAA, 0xAA, 0x2D, 0xD4, length, address] ++ payload ++ mac.toList ++ [dummy0, dummy1]

/-- The move by which the host issues an operation, or an interrupt source delivers it, at given input ports
(rules R133, R135, R143). -/
def deliver (i : Instr) (p : Ports) : Delivery where
  route := if i.context = .interrupt then .source else .task
  word := encode i
  ports := p
  load := none

end Sys2Proof.Machine
end

