-- ==== Sys2Proof/Machine/Assembler.lean ====
section
/-! DEFINITION. The assembler's text form of a program (rule R143) and of the pseudo-operations (rule R144). No step uses
it: it says which operations a line of a program text stands for. -/

namespace Sys2Proof.Machine

/-- A space of a program line. -/
def isBlank (c : Char) : Bool := c == ' ' || c == '\t'

/-- A word without the blanks around it. -/
def trimBlanks (cs : List Char) : List Char := ((cs.dropWhile isBlank).reverse.dropWhile isBlank).reverse

/-- The pieces between commas. -/
def splitCommas : List Char → List (List Char)
  | [] => [[]]
  | c :: cs =>
    match splitCommas cs with
    | [] => [[c]]
    | w :: ws => if c == ',' then [] :: w :: ws else (c :: w) :: ws

/-- The value of a digit, of either case above 9. -/
def digitValue (c : Char) : Option Nat :=
  if '0' ≤ c ∧ c ≤ '9' then some (c.toNat - '0'.toNat)
  else if 'a' ≤ c ∧ c ≤ 'f' then some (c.toNat - 'a'.toNat + 10)
  else if 'A' ≤ c ∧ c ≤ 'F' then some (c.toNat - 'A'.toNat + 10)
  else none

/-- The value of the digits after a value `n`, in a base; none where a character is no digit of it. -/
def digitsFrom (base : Nat) : Nat → List Char → Option Nat
  | n, [] => some n
  | n, c :: cs =>
    match digitValue c with
    | some d => if d < base then digitsFrom base (n * base + d) cs else none
    | none => none

/-- A number of one digit or more. -/
def natOf (base : Nat) : List Char → Option Nat
  | [] => none
  | c :: cs => digitsFrom base 0 (c :: cs)

/-- An operand: decimal, or hexadecimal after `0x` (rule R143); a minus sign before a decimal one, for the negative values of
the `I8` form of rule R132 (log entry 31). -/
def numberOf : List Char → Option Int
  | '0' :: 'x' :: cs => (natOf 16 cs).map Int.ofNat
  | '-' :: cs => (natOf 10 cs).map fun n => -(n : Int)
  | cs => (natOf 10 cs).map Int.ofNat

/-- All operands of a line, none where one of them is no number. -/
def numbersOf : List (List Char) → Option (List Int)
  | [] => some []
  | w :: ws =>
    match numberOf (trimBlanks w), numbersOf ws with
    | some n, some ns => some (n :: ns)
    | _, _ => none

/-! Rule R143 gives a line the word `(op << 16) | arg` and no check of the text. In this model an operand outside the range of
its form makes the line ill-formed, here and in the three forms below, where a word with that value in `arg` would be
refused by the step or read as another operand. DESIGN CHOICE: log entry 31. -/

/-- A `U8` operand: 0 to 255 (rule R132); any other value is ill-formed (log entry 31). -/
def u8Operand (v : Int) : Option U8 := if 0 ≤ v ∧ v ≤ 255 then some (BitVec.ofInt 8 v) else none

/-- An `I8` operand, written as its signed value: -128 to 127 (rule R132); any other value, the raw byte 0xFF among them, is
ill-formed (log entry 31). -/
def i8Operand (v : Int) : Option I8 := if -128 ≤ v ∧ v ≤ 127 then some (BitVec.ofInt 8 v) else none

/-- A `U16` operand: 0 to 65535 (rule R132); any other value is ill-formed (log entry 31). -/
def u16Operand (v : Int) : Option U16 := if 0 ≤ v ∧ v ≤ 65535 then some (BitVec.ofInt 16 v) else none

/-- A `BIT` operand: 0 or 1 (rule R132); any other value is ill-formed (log entry 31). -/
def bitOperand (v : Int) : Option (BitVec 1) := if 0 ≤ v ∧ v ≤ 1 then some (BitVec.ofInt 1 v) else none

/-- Byte operands. -/
def u8Operands : List Int → Option (List U8)
  | [] => some []
  | v :: vs =>
    match u8Operand v, u8Operands vs with
    | some b, some bs => some (b :: bs)
    | _, _ => none

/-- `FRM_SEND n, b0, …, b(n-1)` (rule R144): as many bytes as `n` says, at most 255; any other
line is ill-formed (log entry 31). -/
def sendOperation (n : Int) (bytes : List Int) : Option (List Instr) :=
  if n ≤ 255 ∧ n = bytes.length then (u8Operands bytes).map pseudoSend else none

/-- The operations of a mnemonic with its operands: an operation of rule R133, or a pseudo-operation of rule R144. A
mnemonic of neither, another number of operands than its form has, or an operand outside its range: none (DESIGN CHOICE, log
entry 31). -/
def operationsOf (mnemonic : String) (operands : List Int) : Option (List Instr) :=
  match operands with
  | [] =>
    match mnemonic with
    | "SYS_RESET" => some [.sysReset]
    | "SYS_BOOT" => some [.sysBoot]
    | "SYS_CLI" => some [.sysCli]
    | "SYS_SEI" => some [.sysSei]
    | "SYS_SLEEP" => some [.sysSleep]
    | "CTL_TICK" => some [.ctlTick]
    | "CTL_UPDATE" => some [.ctlUpdate]
    | "CTL_WINDOW_SAMPLE" => some [.ctlWindowSample]
    | "CTL_WINDOW_HW" => some [.ctlWindowHw]
    | "CTL_BATTERY" => some [.ctlBattery]
    | "CTL_SCHED_FOLLOW" => some [.ctlSchedFollow]
    | "MOT_GET_POS_PERCENT" => some [.motGetPosPercent]
    | "MOT_TIMER_STOP" => some [.motTimerStop]
    | "RFM_INIT" => some [.rfmInit]
    | "FRM_TASK_ACK" => some [.frmTaskAck]
    | "FRM_STOP" => some [.frmStop]
    | "FRM_TX_SLOT" => some [.frmTxSlot]
    | "FRM_START_RX" => some [.frmStartRx]
    | "FRM_RX_RESET" => some [.frmRxReset]
    | "EV_TMR_TICK" => some [.evTmrTick]
    | "EV_RTC_SECOND" => some [.evRtcSecond]
    | "EV_MOTOR_WDT" => some [.evMotorWdt]
    | "EV_RFM_EDGE" => some [.evRfmEdge]
    | "RFM_STATUS" => some [pseudoStatus]
    | "RFM_READ_FIFO" => some [pseudoReadFifo]
    | _ => none
  | v :: vs =>
    match mnemonic, vs with
    | "CTL_CHANGE_MODE", [] => (u8Operand v).map fun k => [.ctlChangeMode k]
    | "CTL_TEMP_CHANGE_INC", [] => (i8Operand v).map fun d => [.ctlTempChangeInc d]
    | "CTL_SET_WANTED", [] => (u8Operand v).map fun w => [.ctlSetWanted w]
    | "CTL_ERR_ACK", [] => (u8Operand v).map fun m => [.ctlErrAck m]
    | "MOT_GOTO", [] => (u8Operand v).map fun p => [.motGoto p]
    | "MOT_UPDATE_CAL", [] => (u8Operand v).map fun r => [.motUpdateCal r]
    | "MOT_TIMER_PULSE", [] => (u16Operand v).map fun q => [.motTimerPulse q]
    | "SPI_TRANSFER16", [] => (u16Operand v).map fun w => [.spiTransfer16 w]
    | "FRM_BUF_WRITE", [b] => (u8Operands [v, b]).map fun
      | [i, b] => [.frmBufWrite i b]
      | _ => []
    | "FRM_START_TX", [] => (u8Operand v).map fun n => [.frmStartTx n]
    | "FRM_TX_DONE", [] => (u8Operand v).map fun k => [.frmTxDone k]
    | "FRM_BUF_READ", [] => (u8Operand v).map fun i => [.frmBufRead i]
    | "EV_EYE_EDGE", [] => (bitOperand v).map fun l => [.evEyeEdge l]
    | "RFM_WRITE", [] => (u8Operand v).map fun b => [pseudoWrite b]
    | "FRM_SEND", bytes => sendOperation v bytes
    | "WAIT_TICKS", [] => if 0 ≤ v then some (pseudoWaitTicks v.toNat) else none
    | _, _ => none

/-- The operations of one line of a program: none for an ill-formed line, no operation for a blank line or a comment
(rule R143). -/
def assembleLine (line : List Char) : Option (List Instr) :=
  let text := trimBlanks (line.takeWhile (· != ';'))
  if text.isEmpty then some []
  else
    let rest := trimBlanks (text.dropWhile fun c => !isBlank c)
    match numbersOf (if rest.isEmpty then [] else splitCommas rest) with
    | some operands => operationsOf (String.ofList (text.takeWhile fun c => !isBlank c)) operands
    | none => none

/-- The operations of a program, line by line (rule R143). -/
def assemble : List (List Char) → Option (List Instr)
  | [] => some []
  | l :: ls =>
    match assembleLine l, assemble ls with
    | some is, some js => some (is ++ js)
    | _, _ => none

/-- The script that plays a program, every line at the same input ports (rules R143, R523). -/
def scriptOf (program : List Instr) (p : Ports) : List Delivery := program.map fun i => deliver i p

end Sys2Proof.Machine
end

