-- ==== Sys2Proof/Tests/Slice0.lean ====
section
/-! SUPPORT. Tests: words written out from the encoding tables, the ill-formed operands, one step per operation with the
results that 95_test_vectors.md derives from the rules, and a witness for every obligation that has hypotheses. -/

namespace Sys2Proof.Tests

open Sys2Proof Sys2Proof.Machine

/-! ## States -/

/-- After reset and boot with the radio untouched, the host about to issue a command. -/
def up : State := { State.reset with sys := { State.reset.sys with booted := true, gie := true } }

def withCtl (f : CtlState → CtlState) (s : State) : State := { s with ctl := f s.ctl }
def withMot (f : MotState → MotState) (s : State) : State := { s with mot := f s.mot }
def withFrm (f : FrmState → FrmState) (s : State) : State := { s with frm := f s.frm }
def withSys (f : SysState → SysState) (s : State) : State := { s with sys := f s.sys }
def withCfg (f : Cfg → Cfg) (s : State) : State := { s with cfg := f s.cfg }
def withPorts (f : Ports → Ports) (s : State) : State := { s with env := { s.env with ports := f s.env.ports } }
def by_ (i : Issuer) (s : State) : State := { s with env := { s.env with issuer := i } }

/-- `up` with the host, another operation, or an interrupt source issuing. -/
def inner : State := by_ .operation up
def outer : State := by_ .source up

/-- `up` and `inner` at a measured temperature; `low` levels on `SDO` keep responses determined. -/
def measured (t : I16) (s : State) : State := withPorts (fun p => { p with tempAvg := t, tempValid := true }) s
def low (s : State) : State := withPorts (fun p => { p with sdo := List.replicate 400 false }) s

/-- The state after one operation. -/
def after (i : Instr) (s : State) : State :=
  match exec i s with
  | .next t => t
  | .fault _ => s
  | .refused _ => s

/-- The state after one step. -/
def stepped (s : State) : State :=
  match step s with
  | .next t => t
  | .fault _ => s
  | .refused _ => s

/-- The words of the history. -/
def words (s : State) : List U16 := s.hist.map fun (.spiWord w _) => w

/-- The calibrated motor that the motor vectors start from. -/
def motor (f : MotState → MotState) (s : State) : State :=
  withMot (fun m => f { m with calibrationStep := .calibrated, maxPulses := 200 })
    (withSys (fun y => { y with now := 1000 }) s)

/-- A drive running open. -/
def opening (f : MotState → MotState) (s : State) : State :=
  motor (fun m => f { m with direction := .opening, lastDir := .opening, wdtArmed := true, wdtDeadline := 1050 }) s

/-- A drive that was cut, its watchdog expired, with its stop task pending. -/
def stopped (step : CalStep) (d : Direction) (why : StopReason) (pos target : I16) : State :=
  withSys (fun y => { y with taskFlags := 0x02 })
    (motor (fun m =>
      { m with calibrationStep := step, lastDir := d, stopReason := why, positionPulses := pos, targetPulses := target })
      up)

/-! ## Encoding: every word below is written out from rules R131 to R133 and R136 -/

theorem test_decode_sys :
    [0x010000, 0x020000, 0x030000, 0x040000, 0x050000].map (decodeTableWord 24) =
      [some .sysReset, some .sysBoot, some .sysCli, some .sysSei, some .sysSleep] := by decide

theorem test_decode_ctl :
    [0x100000, 0x110000, 0x120000, 0x130000, 0x140000, 0x150000, 0x160003, 0x1700FF, 0x180028, 0x190008].map
        (decodeTableWord 24) =
      [some .ctlTick, some .ctlUpdate, some .ctlWindowSample, some .ctlWindowHw, some .ctlBattery, some .ctlSchedFollow,
        some (.ctlChangeMode 3), some (.ctlTempChangeInc (-1)), some (.ctlSetWanted 40), some (.ctlErrAck 8)] := by decide

theorem test_decode_mot :
    [0x200064, 0x210001, 0x220000, 0x231234, 0x240000].map (decodeTableWord 24) =
      [some (.motGoto 100), some (.motUpdateCal 1), some .motGetPosPercent, some (.motTimerPulse 0x1234),
        some .motTimerStop] := by decide

theorem test_decode_rfm :
    [0x30B8A5, 0x310000].map (decodeTableWord 24) = [some (.spiTransfer16 0xB8A5), some .rfmInit] := by decide

theorem test_decode_frm :
    [0x370000, 0x380000, 0x390512, 0x3A000E, 0x3B0000, 0x3C0001, 0x3D0000, 0x3E0000, 0x3F004F].map (decodeTableWord 24) =
      [some .frmTaskAck, some .frmStop, some (.frmBufWrite 5 0x12), some (.frmStartTx 14), some .frmTxSlot,
        some (.frmTxDone 1), some .frmStartRx, some .frmRxReset, some (.frmBufRead 79)] := by decide

theorem test_decode_ev :
    [0x400000, 0x410000, 0x420001, 0x430000, 0x440000].map (decodeTableWord 24) =
      [some .evTmrTick, some .evRtcSecond, some (.evEyeEdge 1), some .evMotorWdt, some .evRfmEdge] := by decide

/-- One asymmetric value per field, so that a field read from a neighbour's bits shows. -/
theorem test_decode_rfm12 :
    [0x0001, 0x8098, 0x82D8, 0xA640, 0xC6A3, 0x94C1, 0xC2AC, 0xCA83, 0xCED4].map (decodeTableWord 16) =
      [some (.rfm12StatusRead 1), some (.rfm12Config 1 0 1 8), some (.rfm12PowerMgmt 1 1 0 1 1 0 0 0),
        some (.rfm12Frequency 0x640), some (.rfm12DataRate 1 0x23), some (.rfm12RxControl 1 0 6 0 1),
        some (.rfm12DataFilter 1 0 0 4), some (.rfm12FifoReset 8 0 0 1 1), some (.rfm12SyncPattern 0xD4)] := by decide

theorem test_decode_rfm12_rest :
    [0xB000, 0xC493, 0x9951, 0xCC57, 0xB842, 0xE305, 0xC80D, 0xC06F].map (decodeTableWord 16) =
      [some .rfm12FifoRead, some (.rfm12Afc 2 1 0 0 1 1), some (.rfm12TxConfig 1 5 1), some (.rfm12Pll 2 0x17),
        some (.rfm12TxWrite 0x42), some (.rfm12WakeupTimer 3 5), some (.rfm12LowDutyCycle 6 1),
        some (.rfm12LbdClockDiv 3 15)] := by decide

/-- Words of rule R136 with a fixed bit changed, and words in no row (rule R138). -/
theorem test_decode_rfm12_reserved :
    [0xB001, 0x9858, 0xCCF7, 0xC01F, 0xC208, 0xC220, 0x8100, 0xD000].map (decodeTableWord 16) =
      [none, none, none, none, none, none, none, none] := by decide

/-- The name under which a word is rejected. -/
def rejection (w : Cmd24) : Option DecodeError :=
  match decodeCmd24 w with
  | .ok _ => none
  | .error e => some e

/-- V-ENC-1 to V-ENC-4, and the all-zero word. -/
theorem test_decode_reserved :
    [0x000000, 0x060000, 0x100001, 0x420002, 0x170180].map rejection =
      [some .undefOp, some .undefOp, some .reservedBits, some .reservedBits, some .reservedBits] := by decide

theorem test_encode :
    encode (.ctlTempChangeInc (-5)) = .cmd24 0x1700FB ∧ encode (.frmBufWrite 10 0xC9) = .cmd24 0x390AC9 ∧
      encode (.rfm12RxControl 1 0 5 0 0) = .rfm12 0x94A0 := by decide

/-! ## Operand values: one ill-formed operation for each check of `Instr.wellFormed` -/

theorem test_wellFormed_changeMode :
    (Instr.ctlChangeMode 4).wellFormed = false ∧ (Instr.ctlChangeMode 3).wellFormed = true := by decide
theorem test_wellFormed_errAck :
    (Instr.ctlErrAck 0x10).wellFormed = false ∧ (Instr.ctlErrAck 0xC8).wellFormed = true := by decide
theorem test_wellFormed_txDone :
    (Instr.frmTxDone 2).wellFormed = false ∧ (Instr.frmTxDone 1).wellFormed = true := by decide

/-! ## System -/

/-- `State.reset` is what power-up and `SYS_RESET` make of it. -/
theorem test_sysReset_reset : resetState State.reset = State.reset ∧ powerUp State.reset = State.reset := by decide

/-- V-SYS-1. -/
theorem test_sysReset_keeps_hint :
    let t := after .sysReset { withSys (fun y => { y with fault := some (.txSize, 3), refused := true }) up with
      nv := { persistedMaxPulses := 120 } }
    t.nv.persistedMaxPulses = 120 ∧ t.spi.nSel = true ∧ t.sys = State.reset.sys := by decide

/-- V-SYS-2 and V-SPI-3: the ten words. -/
theorem test_sysBoot :
    let t := after .sysBoot (low State.reset)
    words t = [0x0000, 0x80E7, 0xA640, 0xC623, 0x94C0, 0xC2AC, 0xCA81, 0xC483, 0x9850, 0xCC77] ∧ t.sys.gie = true ∧
      t.sys.booted = true := by decide

/-- V-SYS-3 and V-SYS-4. -/
theorem test_sysBoot_silent :
    (let t := after .sysBoot (withCfg (fun c => { c with radio := { c.radio with rfmAddr := 0 } }) State.reset)
     t.hist = [] ∧ t.sys.booted = true) ∧
    (let t := after .sysBoot (withPorts (fun p => { p with layoutOk := false }) State.reset)
     t.hist = [] ∧ t.sys.halted = true ∧ t.sys.booted = false) := by decide

/-- V-SYS-10 and V-SYS-11. -/
theorem test_sysCli_sysSei :
    (after .sysCli up).sys.gie = false ∧ after (.evEyeEdge 1) (by_ .source (after .sysCli up)) = by_ .source (after .sysCli up) ∧
      (after .sysSei (after .sysCli up)).sys.gie = true := by decide

/-- V-SYS-12 and V-SYS-13. -/
theorem test_sysSleep :
    (after .sysSleep up).sys.sleeping = true ∧
      (let t := after .evRtcSecond (by_ .source (after .sysSleep up))
       t.sys.sleeping = false ∧ t.sys.taskFlags = 0x01) ∧
      (after .sysSleep (withSys (fun y => { y with taskFlags := 0x01 }) up)).env.report = some .context := by decide

/-- V-SYS-7 and V-SYS-8. -/
theorem test_evRtcSecond :
    (after .evRtcSecond outer).sys = { outer.sys with taskFlags := 0x01 } ∧
      after .evRtcSecond (after .evRtcSecond outer) = after .evRtcSecond outer := by decide

/-- V-SYS-9 and V-MOT-23. -/
theorem test_evTmrTick :
    (after .evTmrTick (withSys (fun y => { y with now := 7 }) outer)).sys.now = 8 ∧
      (after .evTmrTick (opening (fun m => { m with wdtDeadline := 1000 }) outer)).sys.now = 1000 := by decide

/-! ## Controller -/

/-- V-CTL-1. -/
theorem test_ctlUpdate :
    let t := after .ctlUpdate (measured 1500 (withCtl (fun c => { c with wantedTemperature := 40 }) inner))
    t.ctl.valveHistory0 = 80 ∧ t.ctl.lastAppliedTemperature = 40 ∧ t.ctl.sumError = 0 ∧ t.ctl.integratorCredit = 20 ∧
      t.ctl.creditExpiration = 30 ∧ t.ctl.blockCount = 1 ∧ t.ctl.snapAbs = 500 ∧ t.ctl.lastAbsError = 500 ∧
      t.ctl.pidCounter = 0 := by decide

/-- X-8, evaluation 10 to 11: rounding down and the accumulation of 8 times the error. -/
theorem test_ctlUpdate_integrator :
    let t := after .ctlUpdate (measured 1990 (withCtl (fun c =>
      { c with
        wantedTemperature := 40, lastAppliedTemperature := 40, pidCounter := 3, valveHistory0 := 50,
        integratorCredit := 20, creditExpiration := 23, lastErrorSign := .pos, lastAbsError := 20, snapAbs := 500 })
      inner))
    t.ctl.valveHistory0 = 55 ∧ t.ctl.sumError = 80 ∧ t.ctl.integratorCredit = 20 ∧ t.ctl.creditExpiration = 22 := by decide

/-- V-CTL-9, evaluation 36: the sum returns to its snapshot when the credit runs out. -/
theorem test_integrator_rollback :
    let t := after .ctlUpdate (measured 1980 (withCtl (fun c =>
      { c with
        wantedTemperature := 39, lastAppliedTemperature := 39, pidCounter := 3, valveHistory0 := 30, sumError := -240,
        snapSum := 240, snapAbs := 30, integratorCredit := 19, creditExpiration := 1, lastErrorSign := .neg,
        lastAbsError := 30 })
      inner))
    t.ctl.sumError = 240 ∧ t.ctl.integratorCredit = 0 ∧ t.ctl.valveHistory0 = 60 := by decide

/-- V-CTL-10: rounding with hysteresis from an old output of 50. -/
theorem test_roundOutput :
    [12900, 13000, 13056, 12700, 12600, 12540].map (roundOutput Config.vec 50) = [50, 51, 51, 50, 49, 49] := by decide

/-- V-CTL-11 to V-CTL-13: a boost starts, counts down, ends. -/
theorem test_boost :
    let s := withCfg (fun c => { c with boost := { c.boost with boostEnable := true } })
      (withCtl (fun c => { c with wantedTemperature := 40, lastAppliedTemperature := 30, valveHistory0 := 45 }) inner)
    let a := after .ctlUpdate (measured 1500 s)
    let b := after .ctlUpdate a
    let d := after .ctlUpdate (measured 1900 b)
    (a.ctl.boostSecs = 1860 ∧ a.ctl.boostDir = .pos ∧ a.ctl.valveHistory0 = 80 ∧ a.ctl.blockCount = 1) ∧
      (b.ctl.boostSecs = 1859 ∧ b.ctl.pidCounter = 1) ∧
      (d.ctl.boostSecs = 0 ∧ d.ctl.valveHistory0 = 80 ∧ d.ctl.pidCounter = 2) := by decide

/-- V-CTL-14. -/
theorem test_ctlTick_defaults :
    let s := withSys (fun y => { y with taskFlags := 0x01 }) up
    after .ctlTick s =
      withCtl (fun c => { c with pidCounter := 1 }) (withMot (fun m => { m with settleCount := 1 }) up) := by decide

/-- V-CTL-15, V-CTL-16 and V-SYS-14. -/
theorem test_ctlTick_flags :
    (let s := withPorts (fun p => { p with syncLost := true }) (withSys (fun y => { y with taskFlags := 0x01 }) up)
     (after .ctlTick s).ctl.errorFlags = 0x08) ∧
    (let s := withPorts (fun p => { p with mounted := false })
      (motor (fun m => { m with positionPulses := 7 }) (withSys (fun y => { y with taskFlags := 0x01 }) up))
     (after .ctlTick s).ctl.errorFlags = 0x20 ∧ (after .ctlTick s).mot.calibrationStep = .uncalibrated) ∧
    (after .ctlTick up).env.report = some .notPending := by decide

/-- V-WIN-1. -/
theorem test_windowSample_opens :
    let t := after .ctlWindowSample (measured 1850 (withCtl (fun c => { c with winHist := [2000, 2000, 2000] }) up))
    t.ctl.windowOpenState = 10 ∧ t.ctl.winHist = [2000, 2000, 2000, 1850] := by decide

/-- V-WIN-2, the sample that closes, and V-WIN-5. -/
theorem test_windowSample_closes :
    (let t := after .ctlWindowSample (measured 1930 (withCtl (fun c =>
      { c with windowOpenState := 6, winHist := [1880, 1870, 1885, 1875, 1860] }) up))
     t.ctl.windowOpenState = 0) ∧
    after .ctlWindowSample up = up := by decide

/-- V-WIN-6, the third tick. -/
theorem test_windowHw :
    let s := withPorts (fun p => { p with reed := true })
      (withCfg (fun c => { c with window := { c.window with windowStrategy := .hw } })
        (withCtl (fun c => { c with reedCount := 2 }) inner))
    let t := after .ctlWindowHw s
    t.ctl.reedTrusted = true ∧ t.ctl.reedCount = 0 ∧ t.ctl.windowOpenState = 1 := by decide

/-- V-BAT-1 to V-BAT-5: the thresholds and their boundaries. -/
theorem test_ctlBattery :
    let run := fun (v : I16) (f : U8) =>
      (after .ctlBattery (withPorts (fun p => { p with batMv := v, batValid := true })
        (withCtl (fun c => { c with errorFlags := f }) inner))).ctl.errorFlags
    [run 2300 0, run 2199 0, run 2200 0, run 2400 0, run 3000 0xC0] = [0x40, 0xC0, 0x40, 0x00, 0xC0] := by decide

/-- V-MODE-5 and V-MODE-6. -/
theorem test_schedFollow :
    let run := fun (ty w : U8) =>
      (after .ctlSchedFollow (withPorts (fun p => { p with schedType := 2 })
        (withCtl (fun c => { c with autoMode := true, scheduleTemperatureType := ty, wantedTemperature := w }) inner))).ctl
    (run 0xFF 30).wantedTemperature = 42 ∧ (run 0xFF 30).scheduleTemperatureType = 2 ∧
      (run 2 50).wantedTemperature = 50 := by decide

/-- V-MODE-1 and V-MODE-2. -/
theorem test_changeMode :
    let s := withPorts (fun p => { p with schedType := 2 }) (withCtl (fun c => { c with wantedTemperature := 30 }) up)
    let a := after (.ctlChangeMode 0) s
    let b := after (.ctlChangeMode 1) a
    (a.ctl.autoMode = true ∧ a.ctl.scheduleTemperatureType = 2 ∧ a.ctl.wantedTemperature = 42 ∧
      a.ctl.savedAuto = false ∧ a.ctl.savedType = 0xFF ∧ a.ctl.savedWanted = 30) ∧
    (b.ctl.autoMode = false ∧ b.ctl.scheduleTemperatureType = 0xFF ∧ b.ctl.wantedTemperature = 30) := by decide

/-- REVOKE after the host lowered `TEMP_MAX` to 40: the saved setpoint 50 is restored as it stands (rule R207). -/
theorem test_changeMode_revoke_restores :
    let s := withCfg (fun c => { c with setpoint := { c.setpoint with tempMax := 40 } })
      (withCtl (fun c => { c with savedWanted := 50 }) up)
    (after (.ctlChangeMode 1) s).ctl.wantedTemperature = 50 := by decide

/-- V-MODE-3 and V-MODE-4. -/
theorem test_changeMode_auto :
    (let t := after (.ctlChangeMode 3) up
     t.ctl.autoMode = true ∧ t.ctl.scheduleTemperatureType = 0xFF ∧ t.ctl.wantedTemperature = 42) ∧
    (after (.ctlChangeMode 4) up).env.report = some .badArg := by decide

/-- V-SET-1, X-1 and V-ENC-5. -/
theorem test_tempChangeInc :
    let s := withCtl (fun c => { c with wantedTemperature := 40, windowOpenState := 7 }) up
    let t := after (.ctlTempChangeInc (-1)) s
    (t.ctl.wantedTemperature = 39 ∧ t.ctl.windowOpenState = 0 ∧ t.ctl.pidCounter = 4) ∧
      (after (.ctlTempChangeInc 0x80) s).ctl.wantedTemperature = 9 ∧
      (after (.ctlTempChangeInc 127) s).ctl.wantedTemperature = 61 := by decide

/-- V-SET-2 and V-SET-3. -/
theorem test_setWanted :
    (after (.ctlSetWanted 0) up).ctl.wantedTemperature = 9 ∧ (after (.ctlSetWanted 255) up).ctl.wantedTemperature = 61 := by
  decide

/-- V-ACK-1 and V-ACK-2. -/
theorem test_errAck :
    let s := withCtl (fun c => { c with errorFlags := 0xC8 }) up
    (after (.ctlErrAck 0x08) s).ctl.errorFlags = 0xC0 ∧ (after (.ctlErrAck 0x10) s).env.report = some .badArg ∧
      (after (.ctlErrAck 0x10) s).ctl.errorFlags = 0xC8 := by decide

/-! ## Motor -/

/-- V-MOT-1 and V-MOT-2. -/
theorem test_goto_starts :
    (let t := (after (.motGoto 50) (motor id up)).mot
     t.targetPulses = 100 ∧ t.direction = .opening ∧ t.lastDir = .opening ∧ t.ignoreCount = 2 ∧ t.pwmDuty = 200 ∧
      t.wdtArmed = true ∧ t.wdtDeadline = 1800 ∧ t.lastPulseTime = 1000 ∧ t.stopReason = .none) ∧
    (let s := motor (fun m => { m with positionPulses := 99 }) up
     after (.motGoto 50) s = s) := by decide

/-- V-MOT-3, V-MOT-4 and V-MOT-5. -/
theorem test_goto_running :
    let s := opening (fun m => { m with targetPulses := 100, positionPulses := 60 }) up
    after (.motGoto 80) s = withMot (fun m => { m with targetPulses := 160 }) s ∧
    (after (.motGoto 10) s).mot.direction = .closing ∧ (after (.motGoto 10) s).mot.targetPulses = 20 ∧
    (after (.motGoto 30) s).mot.direction = .stop ∧ (after (.motGoto 30) s).mot.stopReason = .target := by decide

/-- V-MOT-32 and V-MOT-33. -/
theorem test_updateCal :
    (let t := (after (.motUpdateCal 1) (withMot (fun m => { m with settleCount := 2 }) up)).mot
     t.calibrationStep = .pendingStart ∧ t.settleCount = 0) ∧
    (let t := (after (.motUpdateCal 1) (withMot (fun m => { m with calibrationStep := .pendingStart }) up)).mot
     t.calibrationStep = .toOpen ∧ t.direction = .opening ∧ t.targetPulses = 1000 ∧ t.wdtDeadline = 1200) := by decide

/-- V-MOT-34 and V-MOT-35. -/
theorem test_updateCal_unmount :
    (let s := opening id (withCtl (fun c => { c with errorFlags := 0x10 })
      (withSys (fun y => { y with taskFlags := 0x02 }) up))
     let t := after (.motUpdateCal 0) s
     driveState t.mot = .idle ∧ t.mot.maxPulses = 0 ∧ t.mot.calibrationStep = .uncalibrated ∧ t.ctl.errorFlags = 0 ∧
      t.sys.taskFlags = 0) ∧
    after (.motUpdateCal 7) (motor id up) = motor id up := by decide

/-- V-MOT-14. -/
theorem test_posPercent :
    let run := fun p : I16 => (after .motGetPosPercent (motor (fun m => { m with positionPulses := p }) up)).res
    [run 99, run 201, run (-3), (after .motGetPosPercent up).res] = [49, 100, 0, 255] := by decide

/-- V-MOT-17, V-MOT-18 and V-MOT-19. -/
theorem test_timerPulse :
    let run := fun (d : U8) (q : U16) =>
      (after (.motTimerPulse q) (withMot (fun m => { m with pwmDuty := d }) inner)).mot.pwmDuty
    [run 250 200, run 62 0, run 200 43] = [255, 60, 200] := by decide

/-- V-MOT-20: an internal operation issued directly. -/
theorem test_internal_refused : (after (.motTimerPulse 0x28) up).env.report = some .internal := by decide

/-- V-MOT-24 and V-MOT-27. -/
theorem test_timerStop_calibration :
    (let t := after .motTimerStop (stopped .toClose .closing .timeout (-200) (-1000))
     t.mot.maxPulses = 200 ∧ t.nv.persistedMaxPulses = 200 ∧ t.mot.positionPulses = 0 ∧
      t.mot.calibrationStep = .calibrated ∧ t.mot.lastDir = .stop) ∧
    (let t := after .motTimerStop (stopped .toClose .closing .timeout (-50) (-1000))
     t.mot.calibrationStep = .error ∧ t.ctl.errorFlags = 0x10) := by decide

/-- V-MOT-28, V-MOT-29, V-MOT-30 and V-MOT-31. -/
theorem test_timerStop_move :
    (after .motTimerStop (stopped .calibrated .closing .timeout 1 0)).mot.positionPulses = 0 ∧
    (after .motTimerStop (stopped .calibrated .closing .timeout 40 0)).mot.calibrationStep = .error ∧
    (let t := after .motTimerStop (stopped .calibrated .opening .timeout 150 200)
     t.mot.calibrationStep = .calibrated ∧ t.ctl.errorFlags = 0x10) ∧
    (after .motTimerStop up).env.report = some .notPending := by decide

/-- V-MOT-11, V-MOT-9 and V-MOT-12. -/
theorem test_eyeEdge_driving :
    let s := opening (fun m => { m with eyeLastTime := 960, positionPulses := 10, targetPulses := 100, pwmDuty := 200 }) outer
    (let t := (after (.evEyeEdge 1) (withMot (fun m => { m with ignoreCount := 2 }) s)).mot
     t.eyeLevel = 1 ∧ t.positionPulses = 11 ∧ t.ignoreCount = 1 ∧ t.wdtDeadline = 1800 ∧ t.pwmDuty = 200) ∧
    (let t := (after (.evEyeEdge 1) (withMot (fun m => { m with lastPulseTime := 940 }) s)).mot
     t.positionPulses = 11 ∧ t.pwmDuty = 205 ∧ t.wdtDeadline = 1100) ∧
    (let r := withMot (fun m => { m with eyeLastTime := 995 }) s
     after (.evEyeEdge 1) r = r) := by decide

/-- V-MOT-13 and V-MOT-15. -/
theorem test_eyeEdge_stop_and_coast :
    (let t := (after (.evEyeEdge 1) (opening (fun m =>
      { m with positionPulses := 98, targetPulses := 100, overshootPulses := 2 }) outer)).mot
     t.positionPulses = 99 ∧ t.direction = .stop ∧ t.stopReason = .target ∧ t.overshootPulses = 0) ∧
    (let t := (after (.evEyeEdge 1) (opening (fun m => { m with direction := .stop, positionPulses := 120 }) outer)).mot
     t.positionPulses = 121 ∧ t.overshootPulses = 1 ∧ t.wdtDeadline = 1100) := by decide

/-- V-MOT-21 and V-MOT-22. -/
theorem test_motorWdt :
    let s := opening (fun m => { m with wdtDeadline := 1000 }) outer
    (let t := after .evMotorWdt s
     t.mot.wdtArmed = false ∧ t.mot.direction = .stop ∧ t.mot.stopReason = .timeout ∧ t.sys.taskFlags = 0x02) ∧
    (after .evMotorWdt (withMot (fun m => { m with direction := .stop, stopReason := .target }) s)).mot.stopReason =
      .target := by decide

/-! ## The bus -/

/-- V-SPI-1. -/
theorem test_spiTransfer :
    let t := after (.spiTransfer16 0) (withPorts (fun p => { p with sdo := true :: List.replicate 15 false }) up)
    t.res = 0x8000 ∧ t.hist = [.spiWord 0 0x8000] ∧ t.spi = { nSel := false, sck := false, sdi := false } := by decide

/-- V-SPI-2: the data line at the sixteen rising clocks. -/
theorem test_spi_pins :
    let p := { nSel := false, sck := false, sdi := false : SpiPins }
    ((pinTrace p (spiPinChanges 0xB8A5)).filter (·.sck)).map (·.sdi) =
      [true, false, true, true, true, false, false, false, true, false, true, false, false, true, false, true] ∧
    pinsAfter p (spiPinChanges 0xB8A5) = { nSel := false, sck := false, sdi := true } := by decide

/-- V-SPI-4 to V-SPI-7: the tiers of the baud rate, the optional word, the fixed bits. -/
theorem test_rfmInit :
    let run := fun (b : U32) (d : U16) =>
      (words (after .rfmInit (low (withCfg (fun c =>
        { c with
          radio := { c.radio with rfmBaud := b }
          init := { c.init with dfilt := d, lbdEnable := d == 0, lbd := 0x1F } }) up))))
    run 20000 0xAC = [0x0000, 0x80E7, 0xA640, 0xC623, 0x94A0, 0xC2AC, 0xCA81, 0xC483, 0x9890, 0xCC77] ∧
      run 100000 0 = [0x0000, 0x80E7, 0xA640, 0xC623, 0x9480, 0xC228, 0xCA81, 0xC483, 0x98F0, 0xCC77, 0xC00F] := by decide

/-- Every command word goes over the bus as the bits of rule R136. -/
theorem test_rfm12_sent :
    ([(.rfm12StatusRead 0, 0x0000), (.rfm12Config 1 1 2 7, 0x80E7), (.rfm12PowerMgmt 1 1 0 1 1 0 0 0, 0x82D8),
      (.rfm12Frequency 0x640, 0xA640), (.rfm12DataRate 0 0x23, 0xC623), (.rfm12RxControl 1 0 6 0 0, 0x94C0),
      (.rfm12DataFilter 1 0 0 4, 0xC2AC), (.rfm12FifoReset 8 0 0 1 1, 0xCA83), (.rfm12SyncPattern 0xD4, 0xCED4),
      (.rfm12FifoRead, 0xB000), (.rfm12Afc 2 0 0 0 1 1, 0xC483), (.rfm12TxConfig 0 5 0, 0x9850),
      (.rfm12Pll 3 0x17, 0xCC77), (.rfm12TxWrite 0xA5, 0xB8A5), (.rfm12WakeupTimer 3 5, 0xE305),
      (.rfm12LowDutyCycle 6 1, 0xC80D), (.rfm12LbdClockDiv 0 15, 0xC00F)] : List (Instr × U16)).all
      (fun p => words (after p.1 (low up)) == [p.2]) = true := by decide

/-- V-SPI-9: bit 15 first. -/
theorem test_fifoRead_response :
    let t := after .rfm12FifoRead (withPorts (fun p => { p with sdo := bitsMsbFirst 0x9A37 }) up)
    t.res = 0x9A37 ∧ fifoByte t.res = 0x37 := by decide

/-! ## Frame machine -/

/-- A frame buffer with its first bytes written. -/
def filled (m : Mode) (bytes : List U8) (size pos : U8) (s : State) : State :=
  low (withFrm (fun _ =>
    { mode := m, frameBuffer := bytes.zipIdx.map fun p => (p.2, p.1), frameSize := size, framePos := pos }) s)

/-- The edge source enabled. -/
def edgeOn (s : State) : State := withSys (fun y => { y with rfmIrqEn := true }) s

/-- V-FRM-1 and V-FRM-2. -/
theorem test_frmStop :
    (let t := after .frmStop (edgeOn (filled .rx [] 0 0 up))
     words t = [0x8208] ∧ t.frm.mode = .stop ∧ t.sys.rfmIrqEn = false) ∧
    (let t := after .frmStop (withCfg (fun c => { c with radio := { c.radio with rfmAddr := 0 } }) (filled .rx [] 0 0 up))
     t.hist = [] ∧ t.frm.mode = .stop) := by decide

/-- V-FRM-4, V-FRM-5 and V-FRM-6. -/
theorem test_bufWrite :
    (after (.frmBufWrite 3 0x11) (filled .startTx [1, 2, 3, 4, 5] 5 0 up)).frm.frameBuffer =
      [(0, 1), (1, 2), (2, 3), (3, 0x11), (4, 5)] ∧
    (after (.frmBufWrite 0 0) (filled .tx [1] 1 0 up)).sys.fault = some (.bufOwner, 0) ∧
    (after (.frmBufWrite 80 0) up).sys.fault = some (.bufRange, 80) := by decide

/-- V-FRM-7 and V-FRM-9. -/
theorem test_startTx :
    (let t := after (.frmStartTx 2) (filled .stop [1, 2] 0 0 up)
     t.frm.mode = .startTx ∧ t.frm.frameSize = 2 ∧ t.frm.framePos = 0) ∧
    (after (.frmStartTx 0) up).sys.fault = some (.txSize, 0) ∧
    (after (.frmStartTx 81) up).sys.fault = some (.txSize, 81) := by decide

/-- V-FRM-8 and V-FRM-11. -/
theorem test_startTx_turned_away :
    (after (.frmStartTx 3) (withFrm (fun f => { f with frameBuffer := [(0, 1), (2, 1)] }) up)).sys.fault =
      some (.unwritten, 1) ∧
    (after (.frmStartTx 1) (filled .rx [1] 0 0 up)).env.report = some .mode := by decide

/-- V-FRM-12 and V-FRM-13. -/
theorem test_txSlot :
    (let t := after .frmTxSlot (withPorts (fun p => { p with second := 5 }) (filled .startTx [1] 1 0 inner))
     words t = [0x8238] ∧ t.frm.mode = .tx ∧ t.sys.rfmIrqEn = true ∧ t.frm.framePos = 0) ∧
    (let t := after .frmTxSlot (withPorts (fun p => { p with second := 4 }) (filled .startTx [1] 1 0 inner))
     t.hist = [] ∧ t.frm.mode = .startTx) := by decide

/-- V-FRM-16, V-FRM-17 and V-FRM-18. -/
theorem test_txDone :
    (let t := after (.frmTxDone 0) (filled .txDone [1] 1 1 up)
     words t = [0x8208] ∧ t.frm.mode = .stop ∧ t.sys.rfmIrqEn = false) ∧
    (let t := after (.frmTxDone 1) (filled .txDone [1] 1 1 up)
     words t = [0x8208, 0x82D8, 0xCA81, 0xCA83] ∧ t.frm.mode = .rx ∧ t.frm.framePos = 0 ∧ t.sys.rfmIrqEn = true) ∧
    (after (.frmTxDone 2) (filled .txDone [1] 1 1 up)).env.report = some .badArg := by decide

/-- V-FRM-19. -/
theorem test_startRx :
    let t := after .frmStartRx (low up)
    words t = [0x82D8, 0xCA81, 0xCA83] ∧ t.frm.mode = .rx ∧ t.sys.rfmIrqEn = true := by decide

/-- V-FRM-22. -/
theorem test_rxReset :
    let t := after .frmRxReset (filled .rxOwf [1] 0 80 up)
    words t = [0xCA81, 0xCA83] ∧ t.frm.mode = .rx ∧ t.frm.framePos = 0 ∧ t.sys.rfmIrqEn = true := by decide

/-- V-FRM-23 to V-FRM-25. -/
theorem test_bufRead :
    let s := filled .rx [7, 8, 9, 10] 0 3 up
    (after (.frmBufRead 2) s).res = 9 ∧ (after (.frmBufRead 3) s).sys.fault = some (.bufOwner, 3) ∧
      (after (.frmBufRead 7) up).sys.fault = some (.unwritten, 7) ∧
      (after (.frmBufRead 200) up).sys.fault = some (.bufRange, 200) := by decide

/-- V-FRM-26 and V-FRM-27. -/
theorem test_taskAck :
    (let t := after .frmTaskAck (withSys (fun y => { y with taskFlags := 0x04 }) (filled .rx [1, 2] 0 2 up))
     t.res = 0x0402 ∧ t.sys.taskFlags = 0) ∧
    (after .frmTaskAck up).env.report = some .notPending := by decide

/-- V-FRM-14. -/
theorem test_rfmEdge_tx :
    let s := edgeOn (filled .tx [0xAA, 0x2D] 2 0 outer)
    let a := after .evRfmEdge s
    let b := after .evRfmEdge a
    (words a = [0xB8AA] ∧ a.frm.framePos = 1 ∧ a.sys.rfmIrqEn = true ∧ a.sys.taskFlags = 0) ∧
      (words b = [0xB8AA, 0xB82D] ∧ b.frm.framePos = 2 ∧ b.frm.mode = .txDone ∧ b.sys.taskFlags = 0x04 ∧
        b.sys.rfmIrqEn = false) := by decide

/-- V-FRM-20 and V-FRM-21, with a capacity of 2. -/
theorem test_rfmEdge_rx :
    let s := withCfg (fun c => { c with radio := { c.radio with bufCap := 2 } })
      (withPorts (fun p => { p with sdo := bitsMsbFirst 0x0042 ++ bitsMsbFirst 0x0043 })
        (edgeOn (filled .rx [1] 0 1 outer)))
    let a := after .evRfmEdge s
    let b := after .evRfmEdge a
    (words a = [0xB000] ∧ a.frm.frameBuffer = [(0, 1), (1, 0x42)] ∧ a.frm.framePos = 2 ∧ a.frm.mode = .rxOwf ∧
      a.sys.taskFlags = 0x04 ∧ a.sys.rfmIrqEn = true) ∧
    (b.frm = a.frm ∧ words b = [0xB000, 0xB000] ∧ b.sys.rfmIrqEn = true) := by decide

/-! ## The step and the gate -/

/-- V-SYS-5, V-SYS-6, V-ENC-7 and V-ENC-8. -/
theorem test_gate :
    (after .sysBoot up).env.report = some .context ∧ (after (.motGoto 0) State.reset).env.report = some .notBooted ∧
      (after .evTmrTick up).env.report = some .context ∧
      (stepped ((withCfg (fun c => { c with pid := { c.pid with valveHistoryLen := 2 } }) up).withFetchWord 24 0x060000)).env.report =
        some .historyLen := by decide

/-- A word from the script is decoded and run; a reserved one is refused by name (V-ENC-1, V-ENC-2). -/
theorem test_step :
    (stepped (up.withFetchWord 24 0x180028)).ctl.wantedTemperature = 40 ∧
      (stepped (up.withFetchWord 24 0x410000)).sys.taskFlags = 0x01 ∧
      (stepped (up.withFetchWord 24 0x060000)).env.report = some .undefOp ∧
      (stepped (up.withFetchWord 24 0x100001)).env.report = some .reservedBits ∧
      words (stepped ((low up).withFetchWord 16 0xD000)) = [0xD000] ∧ stepped up = up := by decide

/-- A value outside its bounds is replaced by the default at load (rule R61), the strategy stays (rule R250). -/
theorem test_load :
    let raw := { Config.vec with
      pid := { Config.vec.pid with valveMax := 101 }, window := { Config.vec.window with windowStrategy := .hw } }
    let hi := { Config.vec with pid := { Config.vec.pid with valveMax := 100 } }
    let c := loadedCfg Config.vec { raw := raw, lo := Config.vec, hi := hi, dflt := Config.vec }
    c.pid.valveMax = 80 ∧ c.window.windowStrategy = .thermal := by decide

/-- X-10: the fields of the time-sync flags byte. -/
theorem test_timeSync : flagsType timeSyncFlags = 3 ∧ flagsDeviceType timeSyncFlags = 9 := by decide

/-- Rule R625: with interrupts enabled an interrupt event is enabled, so the run goes on; with them disabled and no
operation left it has ended; a halted block has ended too, a refused one never. -/
theorem test_ended :
    [up, after .sysCli up, withSys (fun y => { y with halted := true }) State.reset,
      withSys (fun y => { y with refused := true, gie := false }) up].map State.ended = [false, true, true, false] := by
  decide

theorem test_reset_memory_canonical : State.reset.frm.frameBuffer.wf = true := by decide

/-- P3, the frame that the host fills: the first and the last of its fifteen operations. -/
theorem test_pseudoSend :
    let f := onAirFrame 8 5 [0x41, 0x12] ⟨#[0xDE, 0xAD, 0xBE, 0xEF], rfl⟩ 0xAA 0xAA
    (pseudoSend f).length = 15 ∧ (pseudoSend f)[6]? = some (.frmBufWrite 6 0x41) ∧
      (pseudoSend f)[14]? = some (.frmStartTx 14) := by decide

/-- Lines of the programs P1 to P5, a pseudo-operation with bytes, and lines that stand for nothing (rules R143, R144). -/
theorem test_assemble :
    ["FRM_BUF_WRITE 10, 0xBE       ; 0x390ABE", "  EV_EYE_EDGE 1  ", "; a comment", "CTL_TEMP_CHANGE_INC -1",
      "FRM_SEND 2, 0xAA, 45", "WAIT_TICKS 3", "CTL_TICK 1", "MOT_GOTO 256", "MOT_GOTO", "FRM_SEND 2, 1"].map
        (fun l => assembleLine l.toList) =
      [some [.frmBufWrite 10 0xBE], some [.evEyeEdge 1], some [], some [.ctlTempChangeInc 0xFF],
        some [.frmBufWrite 0 0xAA, .frmBufWrite 1 0x2D, .frmStartTx 2], some [.evTmrTick, .evTmrTick, .evTmrTick], none,
        none, none, none] := by decide

/-! ## Witnesses: a state and operands that meet the hypotheses of each obligation, at the edges of its cases -/

theorem acceptsCommand_of (s : State)
    (h : (s.live && (cfgProblem s.cfg).isNone && s.env.issuer != .source && !s.sys.inIsr && s.sys.booted) = true) :
    AcceptsCommand s := by
  simp only [Bool.and_eq_true, Option.isNone_iff_eq_none, bne_iff_ne, Bool.not_eq_true'] at h
  exact ⟨h.1.1.1.1, h.1.1.1.2, h.1.1.2, h.1.2, h.2⟩

theorem acceptsInternal_of (s : State)
    (h : (s.live && (cfgProblem s.cfg).isNone && s.env.issuer == .operation && s.sys.booted) = true) :
    AcceptsInternal s := by
  simp only [Bool.and_eq_true, Option.isNone_iff_eq_none, beq_iff_eq] at h
  exact ⟨h.1.1.1, h.1.1.2, h.1.2, h.2⟩

theorem acceptsEvent_of (s : State)
    (h : (s.live && (cfgProblem s.cfg).isNone && s.env.issuer == .source && s.sys.gie && s.sys.booted) = true) :
    AcceptsEvent s := by
  simp only [Bool.and_eq_true, Option.isNone_iff_eq_none, beq_iff_eq] at h
  exact ⟨h.1.1.1.1, h.1.1.1.2, h.1.1.2, h.1.2, h.2⟩

theorem witness_EncodeOfDecode : decodeWord (.cmd24 0x170080) = some (.ctlTempChangeInc 0x80) := by decide

/-- The ends of each reserved range, one word per operand form, a script, an internal operation, the three operands. -/
theorem witness_IllegalEncodingsRefused :
    ([0x00, 0x06, 0x0F, 0x1A, 0x1F, 0x25, 0x2F, 0x32, 0x36, 0x45, 0xFF] : List Nat).all (fun op =>
      op == 0x00 || (0x06 ≤ op && op ≤ 0x0F) || (0x1A ≤ op && op ≤ 0x1F) || (0x25 ≤ op && op ≤ 0x2F)
        || (0x32 ≤ op && op ≤ 0x36) || 0x45 ≤ op) = true ∧
    ((cmdOp 0x01FFFF).toNat = 0x01 ∧ cmdArg 0x01FFFF ≠ 0) ∧ ((cmdOp 0x160100).toNat = 0x16 ∧ cmdArgH 0x160100 ≠ 0) ∧
    ((cmdOp 0x420002).toNat = 0x42 ∧ (0x420002 : Cmd24).extractLsb' 1 15 ≠ 0) ∧
    (rejection 0x060000 = some .undefOp ∧ (up.withFetchWord 24 0x060000).env.script =
      [{ route := .task, word := .cmd24 0x060000, ports := up.env.ports, load := none }] ∧
      up.live = true ∧ cfgProblem up.cfg = none) ∧
    (Instr.ctlUpdate.context = .internal ∧ up.env.issuer ≠ .operation) ∧
    ((Instr.ctlChangeMode 4).wellFormed = false ∧ (Instr.ctlErrAck 0x04).wellFormed = false ∧
      (Instr.frmTxDone 2).wellFormed = false ∧ (filled .txDone [1] 1 1 up).frm.mode = .txDone) := by decide

theorem witness_IllegalEncodingsRefused_accepts : AcceptsCommand (filled .txDone [1] 1 1 up) :=
  acceptsCommand_of _ (by decide)

/-- A command, a bus word in no row of the table, a load with values at and beyond their bounds, and no move. -/
theorem witness_StepRunsDecoded :
    (up.withFetchWord 24 0x180028).env.script =
      [{ route := .task, word := .cmd24 0x180028, ports := up.env.ports, load := none }] ∧
    decodeWord (.cmd24 0x180028) = some (.ctlSetWanted 40) ∧
    ((up.withFetchWord 16 0xD000).env.script =
      [{ route := .task, word := .rfm12 0xD000, ports := up.env.ports, load := none }] ∧
      decodeWord (.rfm12 0xD000) = none) ∧
    (let v := Config.vec
     let load := fun n : U8 =>
      { raw := { v with pid := { v.pid with valveMin := n } }, lo := { v with pid := { v.pid with valveMin := 20 } },
        hi := { v with pid := { v.pid with valveMin := 40 } }, dflt := v : CfgLoad }
     let s := fun n : U8 => { up with env := { up.env with
      script := [{ route := .task, word := .cmd24 0x180028, ports := up.env.ports, load := some (load n) }] } }
     [19, 20, 40, 41].map (fun n => (stepped (s n)).cfg.pid.valveMin) = [30, 20, 40, 30]) ∧
    up.env.script = [] := by decide

theorem witness_DeadStateFrozen :
    (withSys (fun y => { y with halted := true }) State.reset).sys.halted = true ∧
    (withSys (fun y => { y with fault := some (.unwritten, 0) }) up).sys.fault ≠ none ∧
    (withSys (fun y => { y with refused := true }) up).sys.refused = true := by decide

/-- A fault and a refusal that a live state runs into. -/
theorem witness_MarksDiscardEffects :
    (up.live = true ∧ (after (.frmBufWrite 80 0) up).sys.fault = some (.bufRange, 80)) ∧
    (up.live = true ∧ (after .ctlTick up).sys.refused = true) := by decide

theorem witness_ContextAndBootChecks :
    (Instr.evTmrTick.context = .interrupt ∧ up.env.issuer ≠ .source ∧ up.live = true ∧ cfgProblem up.cfg = none) ∧
    (Instr.sysCli.context = .task ∧ (withSys (fun y => { y with inIsr := true }) up).sys.inIsr = true) ∧
    (State.reset.sys.booted = false ∧ State.reset.live = true ∧ cfgProblem State.reset.cfg = none ∧
      Instr.sysCli.context = .task ∧ State.reset.env.issuer ≠ .source ∧ State.reset.sys.inIsr = false) ∧
    (Instr.ctlUpdate.context = .internal ∧ (by_ .operation State.reset).env.issuer = .operation) ∧
    (State.reset.sys.gie = false ∧ (Instr.evEyeEdge 1).context = .interrupt ∧
      (by_ .source State.reset).env.issuer = .source) := by decide

/-- Each bound just missed, over the vector values, and just met. -/
theorem witness_IllegalConfigRefused :
    let v := Config.vec
    ([{ v with setpoint := { v.setpoint with tempMin := 0 } }, { v with setpoint := { v.setpoint with tempMax := 254 } },
      { v with setpoint := { v.setpoint with tempMax := 9 } }, { v with pid := { v.pid with valveMax := 29 } },
      { v with pid := { v.pid with valveMax := 101 } }, { v with pid := { v.pid with iMaxCredit := 128 } },
      { v with motor := { v.motor with pwmMax := 59 } }, { v with motor := { v.motor with pwmDiv := 0 } },
      { v with motor := { v.motor with calLarge := 0 } }, { v with motor := { v.motor with calLarge := 16384 } },
      { v with window := { v.window with rbLen := 2 } }, { v with radio := { v.radio with bufCap := 0 } },
      { v with battery := { v.battery with batWarningThld := 2199 } }, { v with init := { v.init with freq := 4096 } },
      { v with init := { v.init with pll := 128 } }, { v with init := { v.init with p16 := 2 } },
      { v with init := { v.init with modTier2 := 16 } }, { v with init := { v.init with lbd := 256 } }] : List Cfg).all
      (fun c => c.pid.valveHistoryLen == 1 && !c.pid.enableD && cfgProblem c == some .cfg) = true ∧
    ([{ v with setpoint := { v.setpoint with tempMin := 1, tempMax := 253 } },
      { v with setpoint := { v.setpoint with tempMax := 10 } }, { v with pid := { v.pid with valveMax := 100 } },
      { v with motor := { v.motor with calLarge := 16383 } }, { v with init := { v.init with pll := 127 } }] :
      List Cfg).all (fun c => cfgProblem c == none) = true ∧
    cfgProblem { v with pid := { v.pid with valveHistoryLen := 2, enableD := true } } = some .historyLen ∧
    cfgProblem { v with pid := { v.pid with valveHistoryLen := 0 } } = some .historyLen ∧
    cfgProblem { v with pid := { v.pid with enableD := true } } = some .dTerm := by decide

/-- The side condition of the same obligation for an interrupt event. -/
theorem witness_IllegalConfigRefused_event : EventEnabled .evTmrTick outer ∧ outer.live = true := by
  refine ⟨⟨by decide, by decide, fun _ => by decide, ?_, ?_⟩, by decide⟩ <;> intro h <;> cases h

theorem witness_DisabledEventsIgnored :
    outer.env.issuer = .source ∧ outer.mot.wdtArmed = false ∧ outer.sys.rfmIrqEn = false ∧
    (let s := opening (fun m => { m with wdtDeadline := 1001 }) outer
     s.sys.now < s.mot.wdtDeadline) ∧
    (let s := opening (fun m => { m with wdtDeadline := 1000 }) outer
     s.sys.gie = true ∧ s.mot.wdtArmed = true ∧ s.mot.wdtDeadline ≤ s.sys.now) ∧
    (withSys (fun y => { y with gie := false }) outer).sys.gie = false := by decide

/-- A step that writes each of the guarded fields. -/
theorem witness_SoleWriters :
    (let s := stopped .toClose .closing .timeout (-200) (-1000)
     (after .motTimerStop s).nv ≠ s.nv ∧ (after .motTimerStop s).mot.calibrationStep ≠ s.mot.calibrationStep) ∧
    (after .evTmrTick outer).sys.now ≠ outer.sys.now := by decide

theorem witness_BootResult :
    State.reset.live = true ∧ cfgProblem State.reset.cfg = none ∧ State.reset.env.issuer ≠ .source ∧
      State.reset.sys.inIsr = false ∧ State.reset.sys.booted = false := by decide

theorem witness_EnableAndSleepResult : AcceptsCommand up ∧ up.sys.taskFlags = 0 := ⟨acceptsCommand_of _ (by decide), by decide⟩

theorem witness_TimeEvents :
    AcceptsEvent (opening (fun m => { m with wdtDeadline := 1001 }) outer) ∧
      (opening (fun m => { m with wdtDeadline := 1001 }) outer).sys.now <
        (opening (fun m => { m with wdtDeadline := 1001 }) outer).mot.wdtDeadline :=
  ⟨acceptsEvent_of _ (by decide), by decide⟩

theorem witness_TickRunsItsOperations : AcceptsTask (withSys (fun y => { y with taskFlags := 0x01 }) up) .tick :=
  ⟨acceptsCommand_of _ (by decide), by decide, by decide⟩

theorem witness_UpdateFrame : AcceptsInternal inner := acceptsInternal_of _ (by decide)

/-- The controller at a steady setpoint of 40, its gate about to open at 3 and still closed at 2. -/
def steady (polls : U8) (f : CtlState → CtlState) : State :=
  measured 1980 (withCtl (fun c => f { c with wantedTemperature := 40, lastAppliedTemperature := 40, pidCounter := polls }) inner)

theorem witness_UpdateGated :
    AcceptsInternal (steady 2 id) ∧ inner.env.ports.tempValid = false ∧
      ((steady 2 id).ctl.wantedTemperature = (steady 2 id).ctl.lastAppliedTemperature ∧ (steady 2 id).ctl.boostSecs = 0 ∧
        min ((steady 2 id).ctl.pidCounter.toNat + 1) 255 < (steady 2 id).cfg.pid.pidInterval.toNat) :=
  ⟨acceptsInternal_of _ (by decide), by decide, by decide⟩

/-- OFF after a change, ON at an unchanged setpoint on a poll tick, OFF through an open window. -/
theorem witness_UpdateSentinel :
    let off := measured 1500 (withCtl (fun c => { c with wantedTemperature := 9 }) inner)
    let on := steady 3 fun c => { c with wantedTemperature := 61, lastAppliedTemperature := 61 }
    AcceptsInternal off ∧ off.env.ports.tempValid = true ∧ off.ctl.wantedTemperature ≠ off.ctl.lastAppliedTemperature ∧
      off.ctl.wantedTemperature.toNat + 1 = off.cfg.setpoint.tempMin.toNat ∧ AcceptsInternal on ∧
      on.ctl.wantedTemperature.toNat = on.cfg.setpoint.tempMax.toNat + 1 ∧ on.ctl.boostSecs = 0 ∧
      on.cfg.pid.pidInterval.toNat ≤ min (on.ctl.pidCounter.toNat + 1) 255 :=
  ⟨acceptsInternal_of _ (by decide), by decide, by decide, by decide, acceptsInternal_of _ (by decide), by decide,
    by decide, by decide⟩

/-- With the freeze length of 2 and with 0: with 0 the integrator runs at the change evaluation. -/
theorem witness_UpdateSetpointChange :
    let s := fun b : U8 => withCfg (fun c => { c with pid := { c.pid with defineIntegratorBlock := b } })
      (measured 1500 (withCtl (fun c => { c with wantedTemperature := 40 }) inner))
    (AcceptsInternal (s 2) ∧ (s 2).env.ports.tempValid = true ∧ (s 2).ctl.windowOpenState = 0 ∧
      (s 2).ctl.wantedTemperature ≠ (s 2).ctl.lastAppliedTemperature ∧
      (s 2).ctl.wantedTemperature.toNat + 1 ≠ (s 2).cfg.setpoint.tempMin.toNat ∧
      (s 2).ctl.wantedTemperature.toNat ≠ (s 2).cfg.setpoint.tempMax.toNat + 1 ∧
      (s 2).cfg.pid.defineIntegratorBlock ≠ 0 ∧ (after .ctlUpdate (s 2)).ctl.sumError = 0 ∧
      (after .ctlUpdate (s 2)).ctl.lastErrorSign = .zero) ∧
    (AcceptsInternal (s 0) ∧ (s 0).cfg.pid.defineIntegratorBlock = 0 ∧ (after .ctlUpdate (s 0)).ctl.sumError = 4000 ∧
      (after .ctlUpdate (s 0)).ctl.lastErrorSign = .pos ∧ (after .ctlUpdate (s 0)).ctl.snapAbs = 500) :=
  ⟨⟨acceptsInternal_of _ (by decide), by decide, by decide, by decide, by decide, by decide, by decide, by decide,
      by decide⟩,
    ⟨acceptsInternal_of _ (by decide), by decide, by decide, by decide, by decide⟩⟩

/-- After a setpoint change; on a poll tick the state of `witness_UpdateIntegrator` serves. -/
theorem witness_UpdateOutput :
    let s := measured 1500 (withCtl (fun c => { c with wantedTemperature := 40 }) inner)
    AcceptsInternal s ∧ s.env.ports.tempValid = true ∧ s.ctl.wantedTemperature ≠ s.ctl.lastAppliedTemperature ∧
      s.ctl.wantedTemperature.toNat + 1 ≠ s.cfg.setpoint.tempMin.toNat ∧
      s.ctl.wantedTemperature.toNat ≠ s.cfg.setpoint.tempMax.toNat + 1 :=
  ⟨acceptsInternal_of _ (by decide), by decide, by decide, by decide, by decide⟩

/-- An evaluation at an unchanged setpoint, at the first count that opens the gate: unfrozen, at the last frozen
evaluation and at the one before it. -/
theorem witness_UpdateIntegrator :
    let s := fun b : U8 => steady 3 fun c => { c with blockCount := b, sumError := 8, lastErrorSign := .neg }
    (AcceptsInternal (s 0) ∧ AcceptsInternal (s 1) ∧ AcceptsInternal (s 2)) ∧ (s 1).env.ports.tempValid = true ∧
      (s 1).ctl.windowOpenState = 0 ∧ (s 1).ctl.wantedTemperature = (s 1).ctl.lastAppliedTemperature ∧
      (s 1).ctl.boostSecs = 0 ∧ (s 1).cfg.pid.pidInterval.toNat ≤ min ((s 1).ctl.pidCounter.toNat + 1) 255 ∧
      (s 1).ctl.wantedTemperature.toNat + 1 ≠ (s 1).cfg.setpoint.tempMin.toNat ∧
      (s 1).ctl.wantedTemperature.toNat ≠ (s 1).cfg.setpoint.tempMax.toNat + 1 ∧
      [0, 1, 2].map (fun b => (after .ctlUpdate (s b)).ctl.blockCount) = [0, 0, 1] ∧
      [0, 1, 2].map (fun b => (after .ctlUpdate (s b)).ctl.sumError) = [168, 8, 8] ∧
      [0, 1, 2].map (fun b => (after .ctlUpdate (s b)).ctl.lastErrorSign) = [.pos, .neg, .neg] ∧
      [0, 1, 2].map (fun b => (after .ctlUpdate (s b)).ctl.lastAbsError) = [20, 20, 20] :=
  ⟨⟨acceptsInternal_of _ (by decide), acceptsInternal_of _ (by decide), acceptsInternal_of _ (by decide)⟩, by decide,
    by decide, by decide, by decide, by decide, by decide, by decide, by decide, by decide, by decide, by decide⟩

/-- A boost at the setpoint 40: with a threshold of 200 and a hysteresis of 50 it goes on at an error of 150 and ends at
149. -/
theorem witness_UpdateBoost :
    let s := fun t => measured t (steady 0 fun c => { c with boostSecs := 5, boostDir := .pos })
    AcceptsInternal (s 1850) ∧ AcceptsInternal (s 1851) ∧ 0 < (s 1850).ctl.boostSecs.toNat ∧
      (s 1850).ctl.wantedTemperature = (s 1850).ctl.lastAppliedTemperature ∧
      (after .ctlUpdate (s 1850)).ctl.boostSecs = 4 ∧ (after .ctlUpdate (s 1851)).ctl.boostSecs = 0 :=
  ⟨acceptsInternal_of _ (by decide), acceptsInternal_of _ (by decide), by decide, by decide, by decide, by decide⟩

/-- A drop of 100 is no detection and one of 101 is; a rise of 50 is no recovery and one of 51 is. -/
theorem witness_WindowSampleResult :
    let s := fun (o : U8) (t : I16) => measured t (withCtl (fun c => { c with windowOpenState := o, winHist := [2000] }) up)
    AcceptsCommand (s 0 1900) ∧ (s 0 1900).cfg.window.windowStrategy = .thermal ∧
      (after .ctlWindowSample (s 0 1900)).ctl.windowOpenState = 0 ∧
      (after .ctlWindowSample (s 0 1899)).ctl.windowOpenState = 10 ∧
      (after .ctlWindowSample (s 5 2050)).ctl.windowOpenState = 4 ∧
      (after .ctlWindowSample (s 5 2051)).ctl.windowOpenState = 0 :=
  ⟨acceptsCommand_of _ (by decide), by decide, by decide, by decide, by decide, by decide⟩

/-- A debounce of 3: the second differing tick is not trusted, the third is. -/
theorem witness_WindowReedResult :
    let s := fun n : U8 => withPorts (fun p => { p with reed := true })
      (withCfg (fun c => { c with window := { c.window with windowStrategy := .hw } })
        (withCtl (fun c => { c with reedCount := n }) inner))
    AcceptsInternal (s 1) ∧ AcceptsInternal (s 2) ∧ (s 1).cfg.window.windowStrategy = .hw ∧
      (after .ctlWindowHw (s 1)).ctl.reedTrusted = false ∧ (after .ctlWindowHw (s 2)).ctl.reedTrusted = true ∧
      inner.cfg.window.windowStrategy ≠ .hw :=
  ⟨acceptsInternal_of _ (by decide), acceptsInternal_of _ (by decide), by decide, by decide, by decide, by decide⟩

/-- One below each battery threshold (the thresholds themselves: `test_ctlBattery`). -/
theorem witness_BatteryResult :
    let s := fun v : I16 => withPorts (fun p => { p with batMv := v, batValid := true }) inner
    AcceptsInternal (s 2199) ∧ AcceptsInternal (s 2399) ∧ (after .ctlBattery (s 2199)).ctl.errorFlags = 0xC0 ∧
      (after .ctlBattery (s 2399)).ctl.errorFlags = 0x40 :=
  ⟨acceptsInternal_of _ (by decide), acceptsInternal_of _ (by decide), by decide, by decide⟩

/-- In automatic mode, the last preset type and the first invalid one. -/
theorem witness_ScheduleFollowResult :
    let s := fun ty : U8 => withPorts (fun p => { p with schedType := ty }) (withCtl (fun c => { c with autoMode := true }) inner)
    AcceptsInternal (s 3) ∧ AcceptsInternal (s 4) ∧ (after .ctlSchedFollow (s 3)).ctl.wantedTemperature = 46 ∧
      (after .ctlSchedFollow (s 4)).ctl.wantedTemperature = 42 :=
  ⟨acceptsInternal_of _ (by decide), acceptsInternal_of _ (by decide), by decide, by decide⟩

/-- For every command whose only hypothesis is `AcceptsCommand`: `ChangeModeResult`, `SetpointResult`, `ErrorAckResult`,
`UpdateCalResult`, `PosPercentResult`, `SpiTransferResult`, `RadioInitResult`, `FrameStopResult` and those below. -/
theorem witness_commands : AcceptsCommand up ∧ AcceptsCommand (low up) ∧ AcceptsCommand (motor id up) :=
  ⟨acceptsCommand_of _ (by decide), acceptsCommand_of _ (by decide), acceptsCommand_of _ (by decide)⟩

theorem witness_CommandWordsSent : AcceptsCommand up ∧ (Instr.rfm12Pll 3 0x17).isRfm12 = true :=
  ⟨acceptsCommand_of _ (by decide), by decide⟩

/-- The largest target with a value, and one pulse over the tolerance on either side. -/
theorem witness_GotoResult :
    let s := motor (fun m => { m with maxPulses := 32767 }) up
    AcceptsCommand s ∧ gotoTarget s 100 = 32767 ∧ (after (.motGoto 100) s).mot.targetPulses = 32767 ∧
      (after (.motGoto 0) (motor (fun m => { m with positionPulses := 2 }) up)).mot.direction = .stop ∧
      (after (.motGoto 0) (motor (fun m => { m with positionPulses := 3 }) up)).mot.direction = .closing :=
  ⟨acceptsCommand_of _ (by decide), by decide, by decide, by decide, by decide⟩

theorem witness_TimerPulseResult : AcceptsInternal inner := acceptsInternal_of _ (by decide)

/-- The persisted hint at 0, 1, 32767 and 32768. -/
theorem witness_TimerStopCalibration :
    let s := fun h : U16 => { stopped .toOpen .opening .timeout 120 1000 with nv := { persistedMaxPulses := h } }
    AcceptsTask (s 0) .motorStop ∧ (s 0).mot.calibrationStep = .toOpen ∧
      [0, 1, 32767, 32768].map (fun h => (after .motTimerStop (s h)).mot.calibrationStep) =
        [.toClose, .calibrated, .calibrated, .toClose] ∧
      AcceptsTask (stopped .toClose .closing .timeout (-51) (-1000)) .motorStop ∧
      (after .motTimerStop (stopped .toClose .closing .timeout (-51) (-1000))).mot.calibrationStep = .calibrated :=
  ⟨⟨acceptsCommand_of _ (by decide), by decide, by decide⟩, by decide, by decide,
    ⟨acceptsCommand_of _ (by decide), by decide, by decide⟩, by decide⟩

/-- At the tolerance of 2 a stall is the end of the move, at 3 it is an error. -/
theorem witness_TimerStopMove :
    let s := fun p => stopped .calibrated .closing .timeout p 0
    AcceptsTask (s 2) .motorStop ∧ (s 2).mot.calibrationStep ≠ .toOpen ∧ (s 2).mot.calibrationStep ≠ .toClose ∧
      (after .motTimerStop (s 2)).mot.calibrationStep = .calibrated ∧
      (after .motTimerStop (s 3)).mot.calibrationStep = .error :=
  ⟨⟨acceptsCommand_of _ (by decide), by decide, by decide⟩, by decide, by decide, by decide, by decide⟩

/-- A phase of 5 ticks is too short and one of 6 is not, with the watchdog armed and not; while driving, a repeated level
(V-MOT-10) and a phase of 5 ticks (V-MOT-9) are dropped. -/
theorem witness_EyeEdgeStopped :
    let s := fun t => opening (fun m => { m with direction := .stop, eyeLastTime := t }) outer
    let d := opening (fun m => { m with eyeLastTime := 995 }) outer
    AcceptsEvent (s 994) ∧ (s 994).mot.direction = .stop ∧ after (.evEyeEdge 1) (s 995) = s 995 ∧
      (after (.evEyeEdge 1) (s 994)).mot.positionPulses = 1 ∧
      (after (.evEyeEdge 1) outer) = outer ∧
      (after (.evEyeEdge 1) (motor id outer)).mot.eyeLevel = 1 ∧
      (AcceptsEvent d ∧ d.mot.direction ≠ .stop ∧ after (.evEyeEdge 1) d = d) ∧
      (let r := opening (fun m => { m with eyeLevel := 1, eyeLastTime := 900 }) outer
       AcceptsEvent r ∧ r.mot.direction ≠ .stop ∧ after (.evEyeEdge 1) r = r) :=
  ⟨acceptsEvent_of _ (by decide), by decide, by decide, by decide, by decide, by decide,
    ⟨acceptsEvent_of _ (by decide), by decide, by decide⟩, ⟨acceptsEvent_of _ (by decide), by decide, by decide⟩⟩

theorem witness_EyeEdgeDriving :
    let s := opening (fun m => { m with eyeLastTime := 994, targetPulses := 100 }) outer
    AcceptsEvent s ∧ s.mot.direction ≠ .stop ∧ s.mot.lastPulseTime ≤ s.sys.now ∧ 1 ≠ s.mot.eyeLevel ∧
      ¬ (s.sys.now : Int) - s.mot.eyeLastTime < 2 * s.cfg.motor.eyeLow.toNat :=
  ⟨acceptsEvent_of _ (by decide), by decide, by decide, by decide, by decide⟩

theorem witness_WatchdogResult :
    let s := opening (fun m => { m with wdtDeadline := 1000 }) outer
    AcceptsEvent s ∧ s.mot.wdtArmed = true ∧ s.mot.wdtDeadline ≤ s.sys.now :=
  ⟨acceptsEvent_of _ (by decide), by decide, by decide⟩

/-- Sixteen delivered levels are enough for a determined response. -/
theorem witness_SpiTransferResult :
    16 ≤ (withPorts (fun p => { p with sdo := bitsMsbFirst 0x9A37 }) up).env.ports.sdo.length := by decide

/-- The last index of the buffer and the first beyond it; the last readable byte and the first that is not. -/
theorem witness_BufferReadResult :
    let s := filled .rx [7, 8] 0 2 up
    AcceptsCommand s ∧ s.bufByte 1 = some 8 ∧ (after (.frmBufRead 1) s).res = 8 ∧
      (after (.frmBufRead 2) s).sys.fault = some (.bufOwner, 2) ∧ up.bufByte 79 = none ∧
      (after (.frmBufRead 79) up).sys.fault = some (.unwritten, 79) ∧
      (after (.frmBufRead 80) up).sys.fault = some (.bufRange, 80) ∧
      (after (.frmBufWrite 79 1) up).bufByte 79 = some 1 :=
  ⟨acceptsCommand_of _ (by decide), by decide, by decide, by decide, by decide, by decide, by decide, by decide⟩

/-- A gap at index 1, no gap, the radio off, and the sizes 80 and 81. -/
theorem witness_StartTransmitResult :
    let gap := withFrm (fun f => { f with frameBuffer := [(0, 1), (2, 1)] }) up
    let s := filled .stop [1, 2] 0 0 up
    (AcceptsCommand gap ∧ gap.bufByte 1 = none ∧ ∀ j, j < 1 → gap.bufByte j ≠ none) ∧
      (AcceptsCommand s ∧ ∀ k, k < 2 → s.bufByte k ≠ none) ∧
      (after (.frmStartTx 80) s).sys.fault = some (.unwritten, 2) ∧ (after (.frmStartTx 81) s).sys.fault = some (.txSize, 81) :=
  ⟨⟨acceptsCommand_of _ (by decide), by decide, by decide⟩, ⟨acceptsCommand_of _ (by decide), by decide⟩, by decide,
    by decide⟩

theorem witness_TransmitSlotResult :
    let s := withPorts (fun p => { p with second := 5 }) (filled .startTx [1] 1 0 inner)
    AcceptsInternal s ∧ s.frm.mode = .startTx ∧ s.cfg.radio.rfmAddr ≠ 0 ∧
      s.env.ports.second.val = s.cfg.radio.rfmAddr.toNat :=
  ⟨acceptsInternal_of _ (by decide), by decide, by decide, by decide⟩

/-- For `TransmitDoneResult` and `ReceiveResult`: each mode that their cases name. -/
theorem witness_ReceiveResult :
    AcceptsCommand (filled .txDone [1] 1 1 up) ∧ AcceptsCommand (filled .stop [] 0 0 up) ∧
      AcceptsCommand (filled .rx [1] 0 1 up) ∧ AcceptsCommand (filled .rxOwf [1] 0 80 up) :=
  ⟨acceptsCommand_of _ (by decide), acceptsCommand_of _ (by decide), acceptsCommand_of _ (by decide),
    acceptsCommand_of _ (by decide)⟩

/-- The flag pending; all three missing; all three pending in a sleeping loop. -/
theorem witness_TaskAckResult :
    let s := withSys (fun y => { y with taskFlags := 0x04 }) (filled .rxOwf [1] 0 80 up)
    let z := withSys (fun y => { y with taskFlags := 0x07, sleeping := true }) up
    (AcceptsCommand s ∧ s.sys.taskFlags &&& 0x04 ≠ 0 ∧ s.sys.sleeping = false ∧ (after .frmTaskAck s).res = 0x0550 ∧
      s.sys.taskFlags &&& 0x01 = 0 ∧ s.sys.taskFlags &&& 0x02 = 0) ∧
    (AcceptsCommand up ∧ up.sys.taskFlags &&& 0x04 = 0) ∧ (AcceptsCommand z ∧ z.sys.sleeping = true) :=
  ⟨⟨acceptsCommand_of _ (by decide), by decide, by decide, by decide, by decide, by decide⟩,
    ⟨acceptsCommand_of _ (by decide), by decide⟩, ⟨acceptsCommand_of _ (by decide), by decide⟩⟩

/-- The last byte of a frame and the one before it. -/
theorem witness_TransmitEdgeResult :
    let s := fun p => edgeOn (filled .tx [0xAA, 0x2D] 2 p outer)
    AcceptsEvent (s 0) ∧ (s 0).sys.rfmIrqEn = true ∧ (s 0).env.ports.rfmReady = true ∧ (s 0).frm.mode = .tx ∧
      (s 0).frm.framePos.toNat < (s 0).frm.frameSize.toNat ∧ (s 0).bufByte 0 = some 0xAA ∧
      (s 1).frm.framePos.toNat < (s 1).frm.frameSize.toNat ∧ (s 1).bufByte 1 = some 0x2D :=
  ⟨acceptsEvent_of _ (by decide), by decide, by decide, by decide, by decide, by decide, by decide, by decide⟩

theorem witness_ReceiveOverflow :
    let s := edgeOn (filled .rx [] 0 0 outer)
    AcceptsEvent s ∧ s.sys.rfmIrqEn = true ∧ s.env.ports.rfmReady = true ∧ s.frm.mode = .rx ∧ s.frm.framePos = 0 :=
  ⟨acceptsEvent_of _ (by decide), by decide, by decide, by decide, by decide⟩

/-- The last index below the capacity and the one before it, and the overflow. -/
theorem witness_ReceiveEdgeResult :
    let s := fun p => edgeOn (filled .rx [] 0 p outer)
    AcceptsEvent (s 79) ∧ (s 79).sys.rfmIrqEn = true ∧ (s 79).env.ports.rfmReady = true ∧ (s 79).frm.mode = .rx ∧
      (s 79).frm.framePos.toNat < (s 79).cfg.radio.bufCap.toNat ∧ (after .evRfmEdge (s 79)).frm.mode = .rxOwf ∧
      (after .evRfmEdge (s 78)).frm.mode = .rx ∧ AcceptsEvent (edgeOn (filled .rxOwf [] 0 80 outer)) :=
  ⟨acceptsEvent_of _ (by decide), by decide, by decide, by decide, by decide, by decide, by decide,
    acceptsEvent_of _ (by decide)⟩

/-- A change of mode. -/
theorem witness_ModeTransitions : (after .frmStartRx (low up)).frm.mode ≠ (low up).frm.mode := by decide

theorem witness_NestedEventsCommute :
    let s := edgeOn (filled .tx [0xAA] 1 0 outer)
    AcceptsEvent s ∧ s.sys.rfmIrqEn = true ∧ s.env.ports.rfmReady = true ∧ s.frm.mode = .tx ∧
      s.bufByte s.frm.framePos.toNat ≠ none :=
  ⟨acceptsEvent_of _ (by decide), by decide, by decide, by decide, by decide⟩

/-- For the four invariants: they hold where the machine is idle after reset, and a step leads on. -/
theorem witness_invariants :
    MotorInv up ∧ FrameInv up ∧ SystemInv up ∧ ControlInv up ∧ (stepped (up.withFetchWord 24 0x410000)).sys.taskFlags = 1 :=
  ⟨⟨by decide, by decide, by decide, by decide, by decide, by decide, by decide⟩,
    ⟨by decide, by decide, by decide, by decide, by decide⟩,
    ⟨by decide, by decide, by decide, by decide, by decide, by decide, by decide⟩,
    ⟨by decide, by decide, by decide, by decide, by decide, by decide⟩, by decide⟩

end Sys2Proof.Tests
end

namespace Sys2Proof.Machine

/-! ## Every operation is a gate with its own pseudocode behind it

`exec` has one arm per operation; the wrappers of the gate (`hostCommand`, `dispatchTask`, `internalOp`,
`interruptEvent`, and the bare `passGate` of `SYS_BOOT`) differ in their checks and in how the state is entered. Here
the checks, the entry and the pseudocode are functions of the operation, and `exec_eq_gate` ties them to `exec`. -/

/-- The flag whose task the operation is (rule R505). -/
def taskOf : Instr → Option TaskFlag
  | .ctlTick => some .tick
  | .motTimerStop => some .motorStop
  | .frmTaskAck => some .rfm
  | _ => none

/-- The own condition of an interrupt event (rules R502, R526). -/
def eventCondition : Instr → State → Bool
  | .evTmrTick, s => !wdtEnabled s
  | .evMotorWdt, s => wdtEnabled s
  | .evRfmEdge, s => s.sys.rfmIrqEn && s.env.ports.rfmReady
  | _, _ => true

/-- An interrupt event that its source delivers while it is not enabled (rule R502). -/
def notTaken (i : Instr) (s : State) : Bool :=
  match i.context with
  | .interrupt => s.env.issuer == .source && !(s.live && s.sys.gie && eventCondition i s)
  | .any | .task | .internal => false

/-- The checks after the configuration, in order (rules R135, R504, R505, R525). -/
def gateChecks (i : Instr) (s : State) : List (Bool × RefuseReason) :=
  match i.context with
  | .any => []
  | .internal => [(s.env.issuer != .operation, .internal), (!s.sys.booted, .notBooted)]
  | .interrupt => [(s.env.issuer != .source, .context), (!s.sys.booted, .notBooted)]
  | .task =>
    (notTaskContext s, .context) ::
      if i = .sysBoot then []
      else (!s.sys.booted, .notBooted) ::
        match taskOf i with
        | none => []
        | some f => [(!s.pending f || s.sys.sleeping, .notPending)]

/-- `CTL_CHANGE_MODE k` in the state in which it is entered (rule R207). -/
def changeModeEffect (s : State) (k : U8) : Effect :=
  match changeMode s.cfg.setpoint s.env.ports.schedType k s.ctl with
  | some c => .done { s with ctl := c }
  | none => .refuse .badArg

/-- `CTL_ERR_ACK m` in the state in which it is entered (rule R210). -/
def errAckEffect (s : State) (m : U8) : Effect :=
  if m &&& ~~~errAckable ≠ 0 then .refuse .badArg else .done (s.clearErr m)

/-- The pseudocode of the operation's rule, in the state in which the operation is entered. The last arm is the RFM12
command words (rules R136, R144). -/
def pseudocode : Instr → State → Effect
  | .sysReset, s => .done (resetState s)
  | .sysBoot, s => sysBoot s
  | .sysCli, s => .done { s with sys := { s.sys with gie := false } }
  | .sysSei, s => .done { s with sys := { s.sys with gie := true } }
  | .sysSleep, s => sysSleep s
  | .ctlTick, s => .done (ctlTick s)
  | .ctlUpdate, s => .done (ctlUpdate s)
  | .ctlWindowSample, s => .done { s with ctl := windowSample s.cfg.window s.env.ports s.ctl }
  | .ctlWindowHw, s => .done (ctlWindowHw s)
  | .ctlBattery, s => .done (ctlBattery s)
  | .ctlSchedFollow, s => .done (ctlSchedFollow s)
  | .ctlChangeMode k, s => changeModeEffect s k
  | .ctlTempChangeInc d, s =>
    .done { s with ctl := setWanted s.cfg ((s.ctl.wantedTemperature.toNat : Int) + (sext16 d).toInt) s.ctl }
  | .ctlSetWanted v, s => .done { s with ctl := setWanted s.cfg (zext16 v).toNat s.ctl }
  | .ctlErrAck m, s => errAckEffect s m
  | .motGoto p, s => .done (motGoto s p)
  | .motUpdateCal r, s => .done (motUpdateCal s r)
  | .motGetPosPercent, s => .done (s.withRes (zext16 (posPercent s.mot)))
  | .motTimerPulse q, s => .done (motTimerPulse s q)
  | .motTimerStop, s => .done (motTimerStop s)
  | .spiTransfer16 w, s => .done (spiTransfer s w)
  | .rfmInit, s => .done (rfmInit s)
  | .frmTaskAck, s => .done (s.withRes (frameStatus s.frm))
  | .frmStop, s => .done (frmStop s)
  | .frmBufWrite i b, s => frmBufWrite s i b
  | .frmStartTx n, s => frmStartTx s n
  | .frmTxSlot, s => .done (frmTxSlot s)
  | .frmTxDone k, s => frmTxDone s k
  | .frmStartRx, s => frmStartRx s
  | .frmRxReset, s => frmRxReset s
  | .frmBufRead i, s => frmBufRead s i
  | .evTmrTick, s => .done (tmrTick s)
  | .evRtcSecond, s => .done (s.post .tick)
  | .evEyeEdge l, s => .done (eyeEdge s l)
  | .evMotorWdt, s => .done (motorWdt s)
  | .evRfmEdge, s => rfmEdge s
  | i, s => .done (spiTransfer s (rfm12WordOf i))

/-- The state in which the pseudocode begins: an interrupt is entered, a task clears its flag, a command wakes the loop
(rules R505, R507, R523). -/
def entered (i : Instr) (s : State) : State :=
  match i.context with
  | .interrupt => isrEntry s
  | .any | .internal => s
  | .task =>
    match taskOf i with
    | none => wake s
    | some f => s.clearTask f

/-- What follows the pseudocode: the return from an interrupt (rule R508). -/
def leave (i : Instr) (t : State) : State :=
  match i.context with
  | .interrupt => isrReturn t
  | .any | .task | .internal => t

/-- What an admitted operation does. -/
def ownEffect (i : Instr) (s : State) : Effect := (pseudocode i (entered i s)).map (leave i)

theorem Effect.map_id (e : Effect) : e.map (fun t => t) = e := by cases e <;> rfl

theorem Effect.map_eq_done {f : State → State} {e : Effect} {t : State} (h : e.map f = .done t) :
    ∃ u, e = .done u ∧ t = f u := by
  cases e with
  | done u => exact ⟨u, rfl, (Effect.done.inj h).symm⟩
  | fault c x => cases h
  | refuse r => cases h

/-- Behind a check that fails, the pseudocode and the later checks do not matter. -/
theorem passGate_first_fails (s : State) (r : RefuseReason) (l l' : List (Bool × RefuseReason)) (e e' : Effect) :
    passGate s ((true, r) :: l) e = passGate s ((true, r) :: l') e' := by
  simp [passGate]

/-- An illegal configuration is refused before any other check (rule R504). -/
theorem passGate_illegal {s : State} {r : RefuseReason} (l : List (Bool × RefuseReason)) (e : Effect)
    (hl : s.live = true) (hc : cfgProblem s.cfg = some r) : passGate s l e = markRefused s r := by
  simp [passGate, hl, hc]

/-- An interrupt event is not taken, or it passes a gate like any other operation. -/
theorem interruptEvent_eq (s : State) (c : Bool) (handler : State → Effect) :
    interruptEvent s c handler =
      if s.env.issuer == .source && !(s.live && s.sys.gie && c) then s
      else
        passGate s [(s.env.issuer != .source, .context), (!s.sys.booted, .notBooted)]
          ((handler (isrEntry s)).map isrReturn) := by
  by_cases hi : s.env.issuer = .source
  · by_cases hc : (s.live && s.sys.gie && c) = true
    · simp [interruptEvent, hi, hc, passGate]
    · simp [interruptEvent, hi, hc]
  · have hne : (s.env.issuer == .source) = false := by simpa using hi
    simp only [interruptEvent, hne, bne, Bool.false_and, Bool.not_false, Bool.false_eq_true, if_false]
    exact passGate_first_fails ..

/-- Every operation but `SYS_RESET`: not taken, or its gate with its own effect behind it. -/
theorem exec_eq_gate (i : Instr) (s : State) (h : i ≠ .sysReset) :
    exec i s = .next (if notTaken i s then s else passGate s (gateChecks i s) (ownEffect i s)) := by
  cases i
  case sysReset => exact absurd rfl h
  case evTmrTick | evRtcSecond | evEyeEdge | evMotorWdt | evRfmEdge =>
    exact congrArg Host.Outcome.next (interruptEvent_eq ..)
  all_goals exact congrArg (fun e => Host.Outcome.next (passGate s _ e)) (Effect.map_id _).symm

/-! ## What an operation and a step can do -/

/-- The block is as it was, but for a fault mark or a refusal mark (rules R503, R504). -/
inductive OnlyMarked (s : State) : State → Prop where
  | same : OnlyMarked s s
  | refused (r : RefuseReason) : OnlyMarked s (markRefused s r)
  | fault (c : FaultCode) (x : U8) : OnlyMarked s (recordFault s c x)

/-- The operation passes its gate. -/
structure Admitted (i : Instr) (s : State) : Prop where
  live : s.live = true
  legal : cfgProblem s.cfg = none
  checks : firstFailure (gateChecks i s) = none

/-- No check failed when each check of the list passed. -/
theorem firstFailure_none {l : List (Bool × RefuseReason)} (h : firstFailure l = none) : ∀ c ∈ l, c.1 = false := by
  induction l with
  | nil => simp
  | cons c l ih =>
    obtain ⟨b, r⟩ := c
    cases b with
    | true => simp at h
    | false => simpa using ih (by simpa using h)

theorem eq_sysReset_of_context_any {i : Instr} (h : i.context = .any) : i = .sysReset := by
  cases i with
  | sysReset => rfl
  | _ => cases h

/-- Only `SYS_BOOT` and `SYS_RESET` run before boot (rule R525). -/
theorem Admitted.booted {i : Instr} {s : State} (h : Admitted i s) (hr : i ≠ .sysReset) (hb : i ≠ .sysBoot) :
    s.sys.booted = true := by
  have hmem : (!s.sys.booted, RefuseReason.notBooted) ∈ gateChecks i s := by
    unfold gateChecks
    split
    case h_1 hctx => exact absurd (eq_sysReset_of_context_any hctx) hr
    all_goals simp [hb]
  simpa using firstFailure_none h.checks _ hmem

/-- A task runs only while the loop is awake (rule R516). -/
theorem Admitted.awake {i : Instr} {s : State} {f : TaskFlag} (h : Admitted i s) (hctx : i.context = .task)
    (hb : i ≠ .sysBoot) (hf : taskOf i = some f) : s.sys.sleeping = false := by
  have hmem : (!s.pending f || s.sys.sleeping, RefuseReason.notPending) ∈ gateChecks i s := by
    simp [gateChecks, hctx, hb, hf]
  have hpass := firstFailure_none h.checks _ hmem
  simp only [Bool.or_eq_false_iff] at hpass
  exact hpass.2

/-- The gate marks the state, or lets the pseudocode complete. -/
theorem passGate_done_or_marked (s : State) (l : List (Bool × RefuseReason)) (e : Effect) :
    OnlyMarked s (passGate s l e) ∨
      (s.live = true ∧ cfgProblem s.cfg = none ∧ firstFailure l = none ∧ e = .done (passGate s l e)) := by
  obtain h | ⟨r, h⟩ | ⟨hl, hc, hf, h⟩ := passGate_cases s l e
  · rw [h]
    exact .inl .same
  · rw [h]
    exact .inl (.refused r)
  · rw [h]
    cases e with
    | done t => exact .inr ⟨hl, hc, hf, rfl⟩
    | fault c x => exact .inl (.fault c x)
    | refuse r => exact .inl (.refused r)

/-- All that an operation can answer: the reset state, the old state with at most a mark, or the end of its own
pseudocode. -/
theorem exec_cases {i : Instr} {s t : State} (h : exec i s = .next t) :
    (i = .sysReset ∧ t = resetState s) ∨ OnlyMarked s t ∨
      (i ≠ .sysReset ∧ Admitted i s ∧ ∃ u, pseudocode i (entered i s) = .done u ∧ t = leave i u) := by
  by_cases hi : i = .sysReset
  · subst hi
    exact .inl ⟨rfl, (Host.Outcome.next.inj h).symm⟩
  · rw [exec_eq_gate i s hi] at h
    split at h
    · exact .inr (.inl (Host.Outcome.next.inj h ▸ .same))
    · have ht := Host.Outcome.next.inj h
      obtain hm | ⟨hl, hc, hf, hd⟩ := passGate_done_or_marked s (gateChecks i s) (ownEffect i s)
      · exact .inr (.inl (ht ▸ hm))
      · rw [ht] at hd
        exact .inr (.inr ⟨hi, ⟨hl, hc, hf⟩, Effect.map_eq_done hd⟩)

/-- A word with no operation leaves at most a mark (rule R134). -/
theorem rejectWord_marked (s : State) (e : DecodeError) : OnlyMarked s (rejectWord s e) := by
  have hmark : ∀ r, OnlyMarked s (passGate s [(true, r)] (.done s)) := fun r => by
    obtain h | ⟨_, _, hf, _⟩ := passGate_done_or_marked s [(true, r)] (.done s)
    · exact h
    · cases hf
  cases e with
  | undefOp => exact hmark _
  | reservedBits => exact hmark _

/-- The state in which the operation of the move `d` runs, the moves `rest` being left. -/
def delivered (d : Delivery) (rest : List Delivery) (s : State) : State :=
  latch d { s with env := { s.env with script := rest } }

/-- A step idles, rejects a word, or runs an operation in the latched state. -/
theorem step_cases {s t : State} (h : step s = .next t) :
    t = s ∨ ∃ d rest, OnlyMarked (delivered d rest s) t ∨ ∃ i, exec i (delivered d rest s) = .next t := by
  unfold step fetch at h
  cases hs : s.env.script with
  | nil =>
    rw [hs] at h
    exact .inl (Host.Outcome.next.inj h).symm
  | cons d rest =>
    refine .inr ⟨d, rest, ?_⟩
    rw [hs] at h
    simp only [decodeMove] at h
    cases hw : d.word with
    | cmd24 w =>
      cases hd : decodeCmd24 w with
      | ok i =>
        simp only [hw, hd] at h
        exact .inr ⟨i, h⟩
      | error e =>
        simp only [hw, hd] at h
        exact .inl (Host.Outcome.next.inj h ▸ rejectWord_marked _ e)
    | rfm12 w =>
      cases hd : decodeRfm12 w with
      | none =>
        simp only [hw, hd] at h
        exact .inr ⟨_, h⟩
      | some i =>
        simp only [hw, hd] at h
        exact .inr ⟨i, h⟩

/-- The induction over steps packaged once: a predicate that a mark, a delivery, reset and every admitted operation keep
is kept by every step. -/
theorem step_keeps {P : State → Prop} (hdeliver : ∀ s d rest, P s → P (delivered d rest s))
    (hmark : ∀ s t, OnlyMarked s t → P s → P t) (hreset : ∀ s, P (resetState s))
    (hown : ∀ i s u, i ≠ .sysReset → Admitted i s → P s → pseudocode i (entered i s) = .done u → P (leave i u))
    {s t : State} (hs : P s) (h : step s = .next t) : P t := by
  obtain rfl | ⟨d, rest, hm | ⟨i, hi⟩⟩ := step_cases h
  · exact hs
  · exact hmark _ _ hm (hdeliver s d rest hs)
  · obtain ⟨_, rfl⟩ | hm | ⟨hr, ha, u, hu, rfl⟩ := exec_cases hi
    · exact hreset _
    · exact hmark _ _ hm (hdeliver s d rest hs)
    · exact hown i _ u hr ha (hdeliver s d rest hs) hu

end Sys2Proof.Machine

namespace Sys2Proof.Machine

/-! ## What each unit's operations leave unchanged

The operations fall into five parts. For each part one frame says what its pseudocode cannot write; an invariant about
one unit is then kept by the other units' operations through the frame alone. -/

/-- The part of the block whose rules the pseudocode follows. -/
inductive Part where
  | system
  | controller
  | motor
  | radio
  /-- `CTL_TICK`, which runs steps of all units (rule R200) -/
  | tick
deriving DecidableEq

/-- The unit of an operation; the last arm is the radio's own operations and the RFM12 command words. -/
def partOf : Instr → Part
  | .sysReset | .sysBoot | .sysCli | .sysSei | .sysSleep | .evTmrTick | .evRtcSecond => .system
  | .ctlTick => .tick
  | .ctlUpdate | .ctlWindowSample | .ctlWindowHw | .ctlBattery | .ctlSchedFollow | .ctlChangeMode _
  | .ctlTempChangeInc _ | .ctlSetWanted _ | .ctlErrAck _ => .controller
  | .motGoto _ | .motUpdateCal _ | .motGetPosPercent | .motTimerPulse _ | .motTimerStop | .evEyeEdge _
  | .evMotorWdt => .motor
  | _ => .radio

/-- Only the controller's state is written. -/
structure ControllerFrame (s t : State) : Prop where
  rest : t = { s with ctl := t.ctl }

/-- The frame machine and the configuration stay; ERR_MOTOR and TASK_MOTOR_STOP are all that is written outside the
motor, the hint and the result (rules R301, R305, R313). -/
structure MotorFrame (s t : State) : Prop where
  frm : t.frm = s.frm
  cfg : t.cfg = s.cfg
  ctl : t.ctl = s.ctl ∨ t.ctl = s.ctl.setErr errMotor ∨ t.ctl = s.ctl.clearErr errMotor
  sys : t.sys = s.sys ∨ t.sys = (s.post .motorStop).sys ∨ t.sys = (s.clearTask .motorStop).sys

/-- Only the motor's state is written, and of it not the calibration step. -/
structure DriveFrame (s t : State) : Prop where
  rest : t = { s with mot := { t.mot with calibrationStep := s.mot.calibrationStep } }

/-- The controller, the motor, the hint and the configuration stay; of the system part only the edge enable is written,
and TASK_RFM posted (rules R456, R461). -/
structure RadioFrame (s t : State) : Prop where
  ctl : t.ctl = s.ctl
  mot : t.mot = s.mot
  nv : t.nv = s.nv
  cfg : t.cfg = s.cfg
  sys : ∃ b, t.sys = { s.sys with rfmIrqEn := b } ∨ t.sys = { (s.post .rfm).sys with rfmIrqEn := b }

/-- The units' own states stay, and the edge enable. -/
structure SystemFrame (s t : State) : Prop where
  ctl : t.ctl = s.ctl
  mot : t.mot = s.mot
  frm : t.frm = s.frm
  nv : t.nv = s.nv
  cfg : t.cfg = s.cfg
  rfmIrqEn : t.sys.rfmIrqEn = s.sys.rfmIrqEn

/-! ### Entry and return -/

theorem entered_frame (i : Instr) (s : State) : SystemFrame s (entered i s) := by
  unfold entered
  split
  · exact ⟨rfl, rfl, rfl, rfl, rfl, rfl⟩
  · exact ⟨rfl, rfl, rfl, rfl, rfl, rfl⟩
  · exact ⟨rfl, rfl, rfl, rfl, rfl, rfl⟩
  · split <;> exact ⟨rfl, rfl, rfl, rfl, rfl, rfl⟩

theorem leave_frame (i : Instr) (s : State) : SystemFrame s (leave i s) := by
  unfold leave
  split <;> exact ⟨rfl, rfl, rfl, rfl, rfl, rfl⟩

theorem entered_now (i : Instr) (s : State) : (entered i s).sys.now = s.sys.now := by
  unfold entered
  split
  · rfl
  · rfl
  · rfl
  · split <;> rfl

theorem leave_now (i : Instr) (s : State) : (leave i s).sys.now = s.sys.now := by
  unfold leave
  split <;> rfl

/-! ### The motor -/

theorem DriveFrame.motor {s t : State} (h : DriveFrame s t) : MotorFrame s t :=
  ⟨(congrArg State.frm h.rest :), (congrArg State.cfg h.rest :), .inl (congrArg State.ctl h.rest :),
    .inl (congrArg State.sys h.rest :)⟩

theorem DriveFrame.nv {s t : State} (h : DriveFrame s t) : t.nv = s.nv := (congrArg State.nv h.rest :)

theorem DriveFrame.calibrationStep {s t : State} (h : DriveFrame s t) :
    t.mot.calibrationStep = s.mot.calibrationStep :=
  (congrArg (fun x : State => x.mot.calibrationStep) h.rest :)

theorem DriveFrame.refl (s : State) : DriveFrame s s := ⟨rfl⟩

theorem DriveFrame.trans {s t u : State} (h : DriveFrame s t) (k : DriveFrame t u) : DriveFrame s u :=
  ⟨by rw [k.rest, h.rest]⟩

theorem startDrive_drive (s : State) (d : Direction) (v : Int) : DriveFrame s (startDrive s d v) := ⟨rfl⟩

theorem cutDrive_drive (s : State) (r : StopReason) : DriveFrame s (cutDrive s r) := ⟨rfl⟩

theorem setTarget_drive (s : State) (v : Int) : DriveFrame s (setTarget s v) := ⟨rfl⟩

theorem motGoto_drive (s : State) (p : U8) : DriveFrame s (motGoto s p) := by
  unfold motGoto
  dsimp only
  split
  · exact .refl s
  · split
    · exact .refl s
    · split
      · split
        · exact (setTarget_drive ..).trans (cutDrive_drive ..)
        · exact .refl s
      · split
        all_goals
          split
          · exact startDrive_drive ..
          · exact setTarget_drive ..

theorem motTimerPulse_drive (s : State) (q : U16) : DriveFrame s (motTimerPulse s q) :=
  ⟨by simp only [motTimerPulse]⟩

theorem drivePulse_drive (s : State) : DriveFrame s (drivePulse s) := by
  unfold drivePulse
  dsimp only
  split
  · exact ⟨rfl⟩
  · exact DriveFrame.trans ⟨rfl⟩ (motTimerPulse_drive ..)

theorem eyeEdge_drive (s : State) (l : BitVec 1) : DriveFrame s (eyeEdge s l) := by
  have hlatch : DriveFrame s (edgeLatched s l) := ⟨rfl⟩
  have hcount : DriveFrame s (pulseCounted (edgeLatched s l)) := ⟨rfl⟩
  have hdrive : DriveFrame s (drivePulse (pulseCounted (edgeLatched s l))) := hcount.trans (drivePulse_drive _)
  unfold eyeEdge
  dsimp only
  split
  · split
    · exact hlatch
    · exact hlatch
    · exact hcount.trans ⟨rfl⟩
    · split
      · exact hdrive.trans (cutDrive_drive ..)
      · exact hdrive
  · exact .refl s

theorem motUpdateCal_frame (s : State) (r : U8) : MotorFrame s (motUpdateCal s r) := by
  unfold motUpdateCal
  split
  · exact ⟨rfl, rfl, .inr (.inr rfl), .inr (.inr rfl)⟩
  · split
    · unfold motSettle
      split <;> exact ⟨rfl, rfl, .inl rfl, .inl rfl⟩
    all_goals exact ⟨rfl, rfl, .inl rfl, .inl rfl⟩

theorem motUpdateCal_nv (s : State) (r : U8) : (motUpdateCal s r).nv = s.nv := by
  unfold motUpdateCal
  split
  · rfl
  · split
    · unfold motSettle
      split <;> rfl
    all_goals rfl

theorem finishMove_frame (s : State) (why : StopReason) (d : Direction) : MotorFrame s (finishMove s why d) := by
  unfold finishMove
  split
  · exact ⟨rfl, rfl, .inl rfl, .inl rfl⟩
  · exact ⟨rfl, rfl, .inl rfl, .inl rfl⟩
  · split
    · split <;> exact ⟨rfl, rfl, .inl rfl, .inl rfl⟩
    · split
      · exact ⟨rfl, rfl, .inr (.inl rfl), .inl rfl⟩
      · exact ⟨rfl, rfl, .inr (.inl rfl), .inl rfl⟩
      · exact ⟨rfl, rfl, .inl rfl, .inl rfl⟩

theorem openEndstop_frame (s : State) (why : StopReason) (d : Direction) : MotorFrame s (openEndstop s why d) := by
  unfold openEndstop
  split
  · split <;> exact ⟨rfl, rfl, .inl rfl, .inl rfl⟩
  · exact ⟨rfl, rfl, .inr (.inl rfl), .inl rfl⟩

theorem closeEndstop_frame (s : State) (why : StopReason) (d : Direction) : MotorFrame s (closeEndstop s why d) := by
  unfold closeEndstop
  split
  · split
    · exact ⟨rfl, rfl, .inl rfl, .inl rfl⟩
    · exact ⟨rfl, rfl, .inr (.inl rfl), .inl rfl⟩
  · exact ⟨rfl, rfl, .inr (.inl rfl), .inl rfl⟩

theorem motTimerStop_frame (s : State) : MotorFrame s (motTimerStop s) := by
  unfold motTimerStop
  dsimp only
  split
  · exact ⟨(openEndstop_frame _ _ _).frm, (openEndstop_frame _ _ _).cfg, (openEndstop_frame _ _ _).ctl,
      (openEndstop_frame _ _ _).sys⟩
  · exact ⟨(closeEndstop_frame _ _ _).frm, (closeEndstop_frame _ _ _).cfg, (closeEndstop_frame _ _ _).ctl,
      (closeEndstop_frame _ _ _).sys⟩
  · exact ⟨(finishMove_frame _ _ _).frm, (finishMove_frame _ _ _).cfg, (finishMove_frame _ _ _).ctl,
      (finishMove_frame _ _ _).sys⟩
  all_goals exact ⟨rfl, rfl, .inl rfl, .inl rfl⟩

theorem pseudocode_motor {i : Instr} {s t : State} (hi : partOf i = .motor) (h : pseudocode i s = .done t) :
    MotorFrame s t := by
  cases i with
  | motGoto p =>
    cases h
    exact (motGoto_drive s p).motor
  | motUpdateCal r =>
    cases h
    exact motUpdateCal_frame s r
  | motGetPosPercent =>
    cases h
    exact ⟨rfl, rfl, .inl rfl, .inl rfl⟩
  | motTimerPulse q =>
    cases h
    exact (motTimerPulse_drive s q).motor
  | motTimerStop =>
    cases h
    exact motTimerStop_frame s
  | evEyeEdge l =>
    cases h
    exact (eyeEdge_drive s l).motor
  | evMotorWdt =>
    cases h
    exact ⟨rfl, rfl, .inl rfl, .inr (.inl rfl)⟩
  | _ => cases hi

/-! ### The radio -/

theorem RadioFrame.refl (s : State) : RadioFrame s s := ⟨rfl, rfl, rfl, rfl, _, .inl rfl⟩

theorem RadioFrame.trans {s t u : State} (h : RadioFrame s t) (k : RadioFrame t u) : RadioFrame s u := by
  refine ⟨k.ctl.trans h.ctl, k.mot.trans h.mot, k.nv.trans h.nv, k.cfg.trans h.cfg, ?_⟩
  obtain ⟨b, hb⟩ := h.sys
  obtain ⟨c, hc⟩ := k.sys
  refine ⟨c, ?_⟩
  obtain hb | hb := hb <;> obtain hc | hc := hc
  · exact .inl (by rw [hc, hb])
  · exact .inr (by rw [hc, State.post, hb]; rfl)
  · exact .inr (by rw [hc, hb])
  · exact .inr (by rw [hc, State.post, hb]; simp [State.post, BitVec.or_assoc])

theorem spiSendAll_frame (s : State) (ws : List U16) : RadioFrame s (spiSendAll s ws) := by
  obtain ⟨hctl, hmot, _, hsys, hnv, hcfg, _⟩ := spiSendAll_keeps ws s
  exact ⟨hctl, hmot, hnv, hcfg, s.sys.rfmIrqEn, .inl hsys⟩

theorem spiSend_frame (s : State) (w : U16) : RadioFrame s (spiSend s w) := spiSendAll_frame s [w]

theorem spiTransfer_frame (s : State) (w : U16) : RadioFrame s (spiTransfer s w) :=
  ⟨rfl, rfl, rfl, rfl, _, .inl rfl⟩

theorem setMode_frame (s : State) (m : Mode) (b : Bool) : RadioFrame s (setMode s m b) :=
  ⟨rfl, rfl, rfl, rfl, b, .inl rfl⟩

theorem setFramePos_frame (s : State) (v : U8) : RadioFrame s (setFramePos s v) := ⟨rfl, rfl, rfl, rfl, _, .inl rfl⟩

theorem nextFramePos_frame (s : State) : RadioFrame s (nextFramePos s) := setFramePos_frame ..

theorem setRfmIrq_frame (s : State) (b : Bool) : RadioFrame s (setRfmIrq s b) := ⟨rfl, rfl, rfl, rfl, b, .inl rfl⟩

theorem post_rfm_frame (s : State) : RadioFrame s (s.post .rfm) := ⟨rfl, rfl, rfl, rfl, _, .inr rfl⟩

theorem frmStop_frame (s : State) : RadioFrame s (frmStop s) := by
  unfold frmStop
  split
  · exact setMode_frame ..
  · exact (spiSend_frame ..).trans (setMode_frame ..)

theorem startRx_frame (s : State) : RadioFrame s (startRx s) :=
  ((spiSendAll_frame ..).trans (setFramePos_frame ..)).trans (setMode_frame ..)

theorem frmTxSlot_frame (s : State) : RadioFrame s (frmTxSlot s) := by
  unfold frmTxSlot
  split
  · exact (spiSend_frame ..).trans (setMode_frame ..)
  · exact .refl s

/-- A completed buffer write (rule R13). -/
theorem bufWrite_done {s t : State} {i v : U8} (h : bufWrite s i v = .done t) :
    t = { s with frm := { s.frm with frameBuffer := s.frm.frameBuffer.write i.toNat v } } := by
  obtain ⟨_, hb⟩ | ⟨_, hb⟩ := bufWrite_cases s i v
  all_goals rw [hb] at h; cases h
  rfl

/-- A completed `FRM_BUF_WRITE` (rule R451). -/
theorem frmBufWrite_done {s t : State} {i b : U8} (h : frmBufWrite s i b = .done t) :
    ownsBuffer s.frm.mode = false ∧
      t = { s with frm := { s.frm with frameBuffer := s.frm.frameBuffer.write i.toNat b } } := by
  unfold frmBufWrite at h
  split at h
  · cases h
  next hmode => exact ⟨by simpa using hmode, bufWrite_done h⟩

/-- A completed `FRM_START_TX`: the radio is off, or the bytes of the frame are written and the frame is queued (rule
R452). -/
theorem frmStartTx_done {s t : State} {n : U8} (h : frmStartTx s n = .done t) :
    s.frm.mode = .stop ∧
      (t = s ∨
        (1 ≤ n.toNat ∧ s.frm.frameBuffer.firstUnwritten 0 n.toNat = none ∧
          t = { s with frm := { s.frm with frameSize := n, framePos := 0, mode := .startTx } })) := by
  unfold frmStartTx at h
  split at h
  · cases h
  next hmode =>
    refine ⟨by simpa using hmode, ?_⟩
    split at h
    · cases h
      exact .inl rfl
    · split at h
      · cases h
      next hsize =>
        split at h
        · cases h
        next hwritten =>
          cases h
          exact .inr ⟨by omega, hwritten, rfl⟩

/-- A completed `FRM_TX_DONE` (rule R454). -/
theorem frmTxDone_done {s t : State} {k : U8} (h : frmTxDone s k = .done t) :
    t = startRx { spiSend s s.cfg.radio.pmIdle with sys := { s.sys with rfmIrqEn := false } } ∨
      t = setMode (spiSend s s.cfg.radio.pmIdle) .stop false := by
  unfold frmTxDone at h
  split at h
  · cases h
  · split at h
    · cases h
    · split at h <;> cases h
      · exact .inl rfl
      · exact .inr rfl

theorem frmTxDone_frame {s t : State} {k : U8} (h : frmTxDone s k = .done t) : RadioFrame s t := by
  obtain ht | ht := frmTxDone_done h
  · have hsend : RadioFrame s { spiSend s s.cfg.radio.pmIdle with sys := { s.sys with rfmIrqEn := false } } :=
      ⟨rfl, rfl, rfl, rfl, false, .inl rfl⟩
    exact ht ▸ hsend.trans (startRx_frame _)
  · exact ht ▸ (spiSend_frame ..).trans (setMode_frame ..)

/-- A completed `FRM_START_RX` (rule R455). -/
theorem frmStartRx_done {s t : State} (h : frmStartRx s = .done t) : t = s ∨ t = startRx s := by
  unfold frmStartRx at h
  split at h
  · cases h
  · split at h <;> cases h
    · exact .inl rfl
    · exact .inr rfl

/-- A completed `FRM_RX_RESET` (rule R457). -/
theorem frmRxReset_done {s t : State} (h : frmRxReset s = .done t) :
    t = setMode (setFramePos (spiSendAll s [s.cfg.radio.fifoClear, s.cfg.radio.fifoArm]) 0) .rx true := by
  unfold frmRxReset at h
  split at h <;> cases h
  rfl

/-- A completed `FRM_BUF_READ` writes the result only (rule R458). -/
theorem frmBufRead_done {s t : State} {i : U8} (h : frmBufRead s i = .done t) : ∃ v, t = s.withRes v := by
  unfold frmBufRead at h
  split at h
  · cases h
  · split at h
    · cases h
    · split at h <;> cases h
      exact ⟨_, rfl⟩

/-- An edge in `tx` that raises no fault: the last byte ends the transmission (rule R456). -/
theorem txEdge_done {s t : State} (h : txEdge s = .done t) :
    ∃ b, s.bufByte s.frm.framePos.toNat = some b ∧
      (let s1 := nextFramePos (spiSend s (txWriteWord b))
       (s1.frm.frameSize.toNat ≤ s1.frm.framePos.toNat ∧ t = (setMode s1 .txDone false).post .rfm) ∨
         (s1.frm.framePos.toNat < s1.frm.frameSize.toNat ∧ t = setRfmIrq s1 true)) := by
  unfold txEdge at h
  split at h
  · cases h
  next b hb =>
    refine ⟨b, hb, ?_⟩
    dsimp only at h ⊢
    split at h <;> cases h
    · exact .inl ⟨‹_›, rfl⟩
    · exact .inr ⟨by omega, rfl⟩

/-- The state after an edge in `rx` stored the received byte (rule R456). -/
def byteReceived (s : State) : State :=
  { spiSend s fifoReadWord with
    frm :=
      { s.frm with
        frameBuffer := s.frm.frameBuffer.write s.frm.framePos.toNat (fifoByte s.nextResponse)
        framePos := toU8 ((s.frm.framePos.toNat : Int) + 1) } }

/-- An edge in `rx` that raises no fault: the byte is stored, and the mode stays or overflows (rule R456). -/
theorem rxEdge_done {s t : State} (h : rxEdge s = .done t) :
    ∃ m, (m = s.frm.mode ∨ m = .rxOwf) ∧
      t = setRfmIrq (State.post { byteReceived s with frm := { (byteReceived s).frm with mode := m } } .rfm) true := by
  unfold rxEdge at h
  split at h
  next s1 hw =>
    have hs1 := bufWrite_done hw
    subst hs1
    dsimp only at h
    split at h <;> cases h
    · exact ⟨.rxOwf, .inr rfl, by simp only [nextFramePos, setFramePos, byteReceived]; rfl⟩
    · exact ⟨_, .inl rfl, by simp only [nextFramePos, setFramePos, byteReceived]; rfl⟩
  · cases h
  · cases h

theorem txEdge_frame {s t : State} (h : txEdge s = .done t) : RadioFrame s t := by
  obtain ⟨b, -, ⟨-, rfl⟩ | ⟨-, rfl⟩⟩ := txEdge_done h
  all_goals refine (spiSend_frame s (txWriteWord b)).trans ((nextFramePos_frame _).trans ?_)
  · exact (setMode_frame ..).trans (post_rfm_frame _)
  · exact setRfmIrq_frame ..

theorem rxEdge_frame {s t : State} (h : rxEdge s = .done t) : RadioFrame s t := by
  obtain ⟨m, -, rfl⟩ := rxEdge_done h
  exact ⟨rfl, rfl, rfl, rfl, true, .inr rfl⟩

theorem rfmEdge_frame {s t : State} (h : rfmEdge s = .done t) : RadioFrame s t := by
  refine (setRfmIrq_frame s false).trans ?_
  unfold rfmEdge at h
  split at h
  · exact txEdge_frame h
  · exact rxEdge_frame h
  · cases h
    exact ⟨rfl, rfl, rfl, rfl, true, .inr rfl⟩
  all_goals
    cases h
    exact .refl _

theorem pseudocode_radio {i : Instr} {s t : State} (hi : partOf i = .radio) (h : pseudocode i s = .done t) :
    RadioFrame s t := by
  cases i with
  | sysReset | sysBoot | sysCli | sysSei | sysSleep | evTmrTick | evRtcSecond => cases hi
  | ctlTick | ctlUpdate | ctlWindowSample | ctlWindowHw | ctlBattery | ctlSchedFollow => cases hi
  | ctlChangeMode | ctlTempChangeInc | ctlSetWanted | ctlErrAck => cases hi
  | motGoto | motUpdateCal | motGetPosPercent | motTimerPulse | motTimerStop | evEyeEdge | evMotorWdt => cases hi
  | rfmInit =>
    cases h
    exact spiSendAll_frame ..
  | frmTaskAck =>
    cases h
    exact ⟨rfl, rfl, rfl, rfl, _, .inl rfl⟩
  | frmStop =>
    cases h
    exact frmStop_frame s
  | frmBufWrite i b =>
    obtain ⟨-, rfl⟩ := frmBufWrite_done h
    exact ⟨rfl, rfl, rfl, rfl, _, .inl rfl⟩
  | frmStartTx n =>
    obtain ⟨-, rfl | ⟨-, -, rfl⟩⟩ := frmStartTx_done h
    · exact .refl _
    · exact ⟨rfl, rfl, rfl, rfl, _, .inl rfl⟩
  | frmTxSlot =>
    cases h
    exact frmTxSlot_frame s
  | frmTxDone k => exact frmTxDone_frame h
  | frmStartRx =>
    obtain rfl | rfl := frmStartRx_done h
    · exact .refl _
    · exact startRx_frame s
  | frmRxReset =>
    obtain rfl := frmRxReset_done h
    exact ((spiSendAll_frame ..).trans (setFramePos_frame ..)).trans (setMode_frame ..)
  | frmBufRead i =>
    obtain ⟨v, rfl⟩ := frmBufRead_done h
    exact ⟨rfl, rfl, rfl, rfl, _, .inl rfl⟩
  | evRfmEdge => exact rfmEdge_frame h
  | _ =>
    cases h
    exact spiTransfer_frame ..

/-! ### The controller and the system -/

/-- A completed `CTL_CHANGE_MODE` (rule R207). -/
theorem changeModeEffect_done {k : U8} {s t : State} (h : changeModeEffect s k = .done t) :
    ∃ c, changeMode s.cfg.setpoint s.env.ports.schedType k s.ctl = some c ∧ t = { s with ctl := c } := by
  unfold changeModeEffect at h
  split at h <;> cases h
  exact ⟨_, ‹_›, rfl⟩

/-- A completed `CTL_ERR_ACK` (rule R210). -/
theorem errAckEffect_done {m : U8} {s t : State} (h : errAckEffect s m = .done t) : t = s.clearErr m := by
  unfold errAckEffect at h
  split at h <;> cases h
  rfl

theorem pseudocode_controller {i : Instr} {s t : State} (hi : partOf i = .controller)
    (h : pseudocode i s = .done t) : ControllerFrame s t := by
  cases i with
  | ctlUpdate | ctlWindowSample | ctlWindowHw | ctlBattery | ctlSchedFollow | ctlTempChangeInc | ctlSetWanted =>
    cases h
    exact ⟨rfl⟩
  | ctlChangeMode k =>
    obtain ⟨c, -, rfl⟩ := changeModeEffect_done h
    exact ⟨rfl⟩
  | ctlErrAck m =>
    obtain rfl := errAckEffect_done h
    exact ⟨rfl⟩
  | _ => cases hi

/-- A completed `SYS_BOOT` boots or halts (rules R601, R602). -/
theorem sysBoot_done {s t : State} (h : sysBoot s = .done t) :
    s.sys.booted = false ∧
      ((∃ u, RadioFrame s u ∧ u.frm = s.frm ∧ u.sys = s.sys ∧
          t = { u with sys := { u.sys with gie := true, booted := true } }) ∨
        t = { s with sys := { s.sys with halted := true } }) := by
  unfold sysBoot at h
  split at h
  · cases h
  next hb =>
    refine ⟨by simpa using hb, ?_⟩
    split at h <;> cases h
    · refine .inl ⟨_, ?_, ?_, ?_, rfl⟩
      all_goals split
      · exact .refl s
      · exact spiSendAll_frame ..
      · rfl
      · exact (spiSendAll_keeps _ s).2.2.1
      · rfl
      · exact (spiSendAll_keeps _ s).2.2.2.1
    · exact .inr rfl

/-- A completed `SYS_SLEEP` (rule R516). -/
theorem sysSleep_done {s t : State} (h : sysSleep s = .done t) :
    s.sys.taskFlags = 0 ∧ t = { s with sys := { s.sys with sleeping := true } } := by
  unfold sysSleep at h
  split at h
  · cases h
  next hflags =>
    cases h
    exact ⟨by simpa using hflags, rfl⟩

theorem pseudocode_system {i : Instr} {s t : State} (hi : partOf i = .system) (hr : i ≠ .sysReset)
    (h : pseudocode i s = .done t) : SystemFrame s t := by
  cases i with
  | sysReset => exact absurd rfl hr
  | sysBoot =>
    obtain ⟨-, ⟨u, hu, hfrm, hsys, rfl⟩ | rfl⟩ := sysBoot_done h
    · exact ⟨hu.ctl, hu.mot, hfrm, hu.nv, hu.cfg, (congrArg SysState.rfmIrqEn hsys :)⟩
    · exact ⟨rfl, rfl, rfl, rfl, rfl, rfl⟩
  | sysSleep =>
    obtain ⟨-, rfl⟩ := sysSleep_done h
    exact ⟨rfl, rfl, rfl, rfl, rfl, rfl⟩
  | sysCli | sysSei | evTmrTick | evRtcSecond =>
    cases h
    exact ⟨rfl, rfl, rfl, rfl, rfl, rfl⟩
  | _ => cases hi

end Sys2Proof.Machine

namespace Sys2Proof.Machine

/-! ## The tick runs steps of all units

A predicate that each step of `CTL_TICK` keeps is kept by the tick (rule R200). -/

theorem ctlTick_keeps {P : State → Prop}
    (hset : ∀ s m, m = errRfmSync ∨ m = errMount → P s → P (s.setErr m))
    (hclear : ∀ s, P s → P (s.clearErr errMount))
    (hsched : ∀ s, P s → P (ctlSchedFollow s)) (hwindow : ∀ s, P s → P (ctlWindowHw s))
    (hbattery : ∀ s, P s → P (ctlBattery s)) (hupdate : ∀ s, P s → P (ctlUpdate s))
    (hgoto : ∀ s p, P s → P (motGoto s p)) (hcal : ∀ s r, P s → P (motUpdateCal s r))
    (hslot : ∀ s, P s → P (frmTxSlot s)) {s : State} (hs : P s) : P (ctlTick s) := by
  have hsync : P (tickSync s) := by
    unfold tickSync
    split
    · exact hset _ _ (.inl rfl) hs
    · exact hs
  have htickWindow : ∀ u, P u → P (tickWindow u) := fun u hu => by
    unfold tickWindow
    split
    · exact hwindow _ hu
    · exact hu
  have hmount : ∀ u, P u → P (tickMount u) := fun u hu => by
    unfold tickMount
    split
    · exact hcal _ _ (hclear _ hu)
    · exact hcal _ _ (hset _ _ (.inr rfl) hu)
  exact hslot _ (hmount _ (hgoto _ _ (hupdate _ (hbattery _ (htickWindow _ (hsched _ hsync))))))

/-! ## The frame machine's invariants -/

theorem FrameInv.congr {s t : State} (h : FrameInv s) (hfrm : t.frm = s.frm)
    (hirq : t.sys.rfmIrqEn = s.sys.rfmIrqEn) : FrameInv t := by
  have hbyte : ∀ k, t.bufByte k = s.bufByte k := fun k => by rw [State.bufByte, hfrm, State.bufByte]
  exact
    { irq_owner := by rw [hfrm, hirq]; exact h.irq_owner
      tx_cursor := by rw [hfrm]; exact h.tx_cursor
      done_cursor := by rw [hfrm]; exact h.done_cursor
      tx_written := by simp only [hfrm, hbyte]; exact h.tx_written
      canonical := by rw [hfrm]; exact h.canonical }

theorem FrameInv.of_system {s t : State} (h : FrameInv s) (hf : SystemFrame s t) : FrameInv t :=
  h.congr hf.frm hf.rfmIrqEn

theorem FrameInv.of_controller {s t : State} (h : FrameInv s) (hf : ControllerFrame s t) : FrameInv t :=
  h.congr (congrArg State.frm hf.rest :) (congrArg (fun x : State => x.sys.rfmIrqEn) hf.rest :)

theorem FrameInv.of_motor {s t : State} (h : FrameInv s) (hf : MotorFrame s t) : FrameInv t := by
  refine h.congr hf.frm ?_
  obtain hs | hs | hs := hf.sys
  · rw [hs]
  · rw [hs, State.post_sys_rfmIrqEn]
  · rw [hs, State.clearTask_sys_rfmIrqEn]

/-- Outside transmission only the edge enable and the buffer's form are left to say. -/
theorem FrameInv.not_transmitting {s : State}
    (hmode : s.frm.mode = .stop ∨ s.frm.mode = .rx ∨ s.frm.mode = .rxOwf)
    (hirq : s.sys.rfmIrqEn = true → ownsBuffer s.frm.mode = true) (hwf : s.frm.frameBuffer.wf = true) :
    FrameInv s where
  irq_owner := hirq
  tx_cursor h := by
    obtain hm | hm | hm := hmode <;> simp [hm] at h
  done_cursor h := by
    obtain hm | hm | hm := hmode <;> simp [hm] at h
  tx_written h := by
    obtain hm | hm | hm := hmode <;> simp [hm] at h
  canonical := hwf

theorem FrameInv.setMode_stop {s : State} (hwf : s.frm.frameBuffer.wf = true) : FrameInv (setMode s .stop false) :=
  .not_transmitting (.inl rfl) (fun h => nomatch h) hwf

theorem FrameInv.setMode_rx {s : State} (hwf : s.frm.frameBuffer.wf = true) : FrameInv (setMode s .rx true) :=
  .not_transmitting (.inr (.inl rfl)) (fun _ => rfl) hwf

theorem frmStop_frameInv {s : State} (h : FrameInv s) : FrameInv (frmStop s) := by
  unfold frmStop
  split <;> exact .setMode_stop h.canonical

theorem startRx_frameInv {s : State} (hwf : s.frm.frameBuffer.wf = true) : FrameInv (startRx s) :=
  .setMode_rx hwf

/-- A written byte stays written. -/
theorem Memory.read_write_ne_none {m : Memory} {x : Nat} (a : Nat) (b : U8) (h : m.read x ≠ none) :
    (m.write a b).read x ≠ none := by
  by_cases hx : x = a
  · simp [hx]
  · rwa [Memory.read_write_other m b hx]

theorem frmBufWrite_frameInv {s t : State} {i b : U8} (h : FrameInv s) (hd : frmBufWrite s i b = .done t) :
    FrameInv t := by
  obtain ⟨-, rfl⟩ := frmBufWrite_done hd
  exact
    { irq_owner := h.irq_owner
      tx_cursor := h.tx_cursor
      done_cursor := h.done_cursor
      tx_written := fun hm k hk => Memory.read_write_ne_none _ _ (h.tx_written hm k hk)
      canonical := Memory.wf_write _ _ _ h.canonical }

/-- The queued frame starts with all its bytes written, and before it the edge source was disabled. -/
theorem frmStartTx_frameInv {s t : State} {n : U8} (h : FrameInv s) (hd : frmStartTx s n = .done t) :
    FrameInv t := by
  obtain ⟨hmode, rfl | ⟨hsize, hwritten, rfl⟩⟩ := frmStartTx_done hd
  · exact h
  · exact
      { irq_owner := fun hirq => by
          have howner := h.irq_owner hirq
          rw [hmode] at howner
          cases howner
        tx_cursor := fun _ => hsize
        done_cursor := fun hm => nomatch hm
        tx_written := fun _ k hk => Memory.firstUnwritten_none _ _ _ hwritten k (Nat.zero_le k) (by simpa using hk)
        canonical := h.canonical }

theorem frmTxSlot_frameInv {s : State} (h : FrameInv s) : FrameInv (frmTxSlot s) := by
  unfold frmTxSlot
  split
  next hc =>
    exact
      { irq_owner := fun _ => rfl
        tx_cursor := fun _ => h.tx_cursor (.inl hc.1)
        done_cursor := fun hm => nomatch hm
        tx_written := fun _ => h.tx_written (.inl hc.1)
        canonical := h.canonical }
  · exact h

theorem frmTxDone_frameInv {s t : State} {k : U8} (h : FrameInv s) (hd : frmTxDone s k = .done t) : FrameInv t := by
  obtain ht | ht := frmTxDone_done hd
  · exact ht ▸ startRx_frameInv h.canonical
  · exact ht ▸ .setMode_stop h.canonical

theorem frmStartRx_frameInv {s t : State} (h : FrameInv s) (hd : frmStartRx s = .done t) : FrameInv t := by
  obtain rfl | rfl := frmStartRx_done hd
  · exact h
  · exact startRx_frameInv h.canonical

theorem frmRxReset_frameInv {s t : State} (h : FrameInv s) (hd : frmRxReset s = .done t) : FrameInv t := by
  obtain rfl := frmRxReset_done hd
  exact .setMode_rx h.canonical

/-- A cursor below the size moves on without leaving the byte range. -/
theorem nextFramePos_toNat {s : State} (h : s.frm.framePos.toNat < s.frm.frameSize.toNat) :
    (nextFramePos s).frm.framePos.toNat = s.frm.framePos.toNat + 1 := by
  have hsize := s.frm.frameSize.isLt
  have hnext := toU8_toNat ((s.frm.framePos.toNat : Int) + 1) (by omega) (by omega)
  rw [nextFramePos_frm_framePos]
  omega

theorem txEdge_frameInv {s t : State} (h : FrameInv s) (hm : s.frm.mode = .tx) (hd : txEdge s = .done t) :
    FrameInv t := by
  obtain ⟨b, -, ht⟩ := txEdge_done hd
  have hcursor := h.tx_cursor (.inr hm)
  have hnext := nextFramePos_toNat (s := spiSend s (txWriteWord b)) hcursor
  have hmode : (nextFramePos (spiSend s (txWriteWord b))).frm.mode = .tx := by simpa using hm
  have hsize : (nextFramePos (spiSend s (txWriteWord b))).frm.frameSize = s.frm.frameSize := by simp
  have hbuffer : (nextFramePos (spiSend s (txWriteWord b))).frm.frameBuffer = s.frm.frameBuffer := by simp
  generalize nextFramePos (spiSend s (txWriteWord b)) = s1 at ht hnext hmode hsize hbuffer
  have hwf : s1.frm.frameBuffer.wf = true := hbuffer ▸ h.canonical
  obtain ⟨-, rfl⟩ | ⟨hlt, rfl⟩ := ht
  · exact
      { irq_owner := fun hirq => nomatch hirq
        tx_cursor := fun hmode => by simp at hmode
        done_cursor := fun _ => by
          simp only [State.post_frm, setMode_frm_framePos, setMode_frm_frameSize, hnext, hsize]
          exact hcursor
        tx_written := fun hmode => by simp at hmode
        canonical := hwf }
  · exact
      { irq_owner := fun _ => congrArg ownsBuffer hmode
        tx_cursor := fun _ => hlt
        done_cursor := fun hdone => by simp [hmode] at hdone
        tx_written := fun _ k hk => by
          simp only [State.bufByte, setRfmIrq_frm, hbuffer]
          exact h.tx_written (.inr hm) k (hsize ▸ hk)
        canonical := hwf }

theorem rxEdge_frameInv {s t : State} (h : FrameInv s) (hm : s.frm.mode = .rx) (hd : rxEdge s = .done t) :
    FrameInv t := by
  obtain ⟨m, hmode, rfl⟩ := rxEdge_done hd
  refine .not_transmitting (.inr ?_) (fun _ => ?_) (Memory.wf_write _ _ _ h.canonical)
  · exact hmode.imp_left (·.trans hm)
  · obtain rfl | rfl := hmode
    · exact congrArg ownsBuffer hm
    · rfl

/-- The edge handler, which begins by disabling the source (rule R456). -/
theorem rfmEdge_frameInv {s t : State} (h : FrameInv s) (hd : rfmEdge s = .done t) : FrameInv t := by
  have hoff : FrameInv (setRfmIrq s false) :=
    ⟨fun hirq => (nomatch hirq), h.tx_cursor, h.done_cursor, h.tx_written, h.canonical⟩
  unfold rfmEdge at hd
  split at hd
  next hm => exact txEdge_frameInv hoff hm hd
  next hm => exact rxEdge_frameInv hoff hm hd
  next hm =>
    cases hd
    exact .not_transmitting (.inr (.inr hm)) (fun _ => congrArg ownsBuffer hm) h.canonical
  all_goals
    cases hd
    exact hoff

theorem ctlTick_frameInv {s : State} (h : FrameInv s) : FrameInv (ctlTick s) :=
  ctlTick_keeps (P := FrameInv) (fun _ _ _ hu => hu.of_controller ⟨rfl⟩) (fun _ hu => hu.of_controller ⟨rfl⟩)
    (fun _ hu => hu.of_controller ⟨rfl⟩) (fun _ hu => hu.of_controller ⟨rfl⟩) (fun _ hu => hu.of_controller ⟨rfl⟩)
    (fun _ hu => hu.of_controller ⟨rfl⟩) (fun _ _ hu => hu.of_motor (motGoto_drive ..).motor)
    (fun _ _ hu => hu.of_motor (motUpdateCal_frame ..)) (fun _ => frmTxSlot_frameInv) h

theorem pseudocode_radio_frameInv {i : Instr} {s t : State} (hi : partOf i = .radio) (h : FrameInv s)
    (hd : pseudocode i s = .done t) : FrameInv t := by
  cases i with
  | sysReset | sysBoot | sysCli | sysSei | sysSleep | evTmrTick | evRtcSecond => cases hi
  | ctlTick | ctlUpdate | ctlWindowSample | ctlWindowHw | ctlBattery | ctlSchedFollow => cases hi
  | ctlChangeMode | ctlTempChangeInc | ctlSetWanted | ctlErrAck => cases hi
  | motGoto | motUpdateCal | motGetPosPercent | motTimerPulse | motTimerStop | evEyeEdge | evMotorWdt => cases hi
  | rfmInit =>
    cases hd
    obtain ⟨-, -, hfrm, hsys, -⟩ := spiSendAll_keeps (initWords s.cfg) s
    exact h.congr hfrm (congrArg SysState.rfmIrqEn hsys)
  | frmStop =>
    cases hd
    exact frmStop_frameInv h
  | frmBufWrite i b => exact frmBufWrite_frameInv h hd
  | frmStartTx n => exact frmStartTx_frameInv h hd
  | frmTxSlot =>
    cases hd
    exact frmTxSlot_frameInv h
  | frmTxDone k => exact frmTxDone_frameInv h hd
  | frmStartRx => exact frmStartRx_frameInv h hd
  | frmRxReset => exact frmRxReset_frameInv h hd
  | frmBufRead i =>
    obtain ⟨v, rfl⟩ := frmBufRead_done hd
    exact h.congr rfl rfl
  | evRfmEdge => exact rfmEdge_frameInv h hd
  | _ =>
    cases hd
    exact h.congr rfl rfl

theorem pseudocode_frameInv {i : Instr} {s t : State} (hr : i ≠ .sysReset) (h : FrameInv s)
    (hd : pseudocode i s = .done t) : FrameInv t := by
  cases hi : partOf i with
  | system => exact h.of_system (pseudocode_system hi hr hd)
  | controller => exact h.of_controller (pseudocode_controller hi hd)
  | motor => exact h.of_motor (pseudocode_motor hi hd)
  | radio => exact pseudocode_radio_frameInv hi h hd
  | tick =>
    cases i with
    | ctlTick =>
      cases hd
      exact ctlTick_frameInv h
    | _ => cases hi

/-- Settles O57: by cases on the units; only the radio's operations and the tick touch the frame machine. -/
theorem frameInvKept : Obligations.FrameInvKept := by
  intro s t hs hstep
  refine step_keeps (P := FrameInv) ?deliver ?mark ?reset ?own hs hstep
  case deliver => exact fun s d rest h => h.congr rfl rfl
  case mark =>
    intro s t hm h
    cases hm
    · exact h
    all_goals exact h.congr rfl rfl
  case reset => exact fun s => .not_transmitting (.inl rfl) (fun h => nomatch h) rfl
  case own =>
    intro i s u hr _ h hd
    exact (pseudocode_frameInv hr (h.of_system (entered_frame i s)) hd).of_system (leave_frame i u)

end Sys2Proof.Machine

namespace Sys2Proof.Machine

/-! ## What a legal configuration bounds -/

theorem boundsHold_of_legal {c : Cfg} (h : cfgProblem c = none) : boundsHold c = true := by
  unfold cfgProblem at h
  split at h
  · cases h
  · split at h
    · cases h
    · split at h
      next hb => exact (Bool.and_eq_true_iff.mp hb).1
      · cases h

/-- The valve limits are percentages in order (rule R61). -/
theorem legal_valve {c : Cfg} (h : cfgProblem c = none) :
    c.pid.valveMin.toNat ≤ c.pid.valveMax.toNat ∧ c.pid.valveMax.toNat ≤ 100 := by
  have hb := boundsHold_of_legal h
  simp only [boundsHold, Bool.and_eq_true, decide_eq_true_eq] at hb
  omega

/-- The credit limit fits an i8 (rule R61). -/
theorem legal_credit {c : Cfg} (h : cfgProblem c = none) : c.pid.iMaxCredit.toNat ≤ 127 := by
  have hb := boundsHold_of_legal h
  simp only [boundsHold, Bool.and_eq_true, decide_eq_true_eq] at hb
  omega

/-- The setpoint sentinels fit a u8 below the value INVALID (rules R32, R61). -/
theorem legal_setpoint {c : Cfg} (h : cfgProblem c = none) :
    1 ≤ c.setpoint.tempMin.toNat ∧ c.setpoint.tempMin.toNat ≤ c.setpoint.tempMax.toNat ∧
      c.setpoint.tempMax.toNat + 1 ≤ 0xFE := by
  have hb := boundsHold_of_legal h
  simp only [boundsHold, Bool.and_eq_true, decide_eq_true_eq] at hb
  omega

/-! ## The controller's ranges -/

/-- The ranges of `ControlInv` as a predicate of the controller's state alone. -/
structure CtlInRange (c : CtlState) : Prop where
  sum_bounded : c.sumError.toInt.natAbs ≤ 3276800
  snap_bounded : c.snapSum.toInt.natAbs ≤ 3276800
  credit_nonneg : 0 ≤ c.integratorCredit.toInt
  snap_error : c.snapAbs.toNat ≤ 1200
  last_error : c.lastAbsError.toNat ≤ 1200
  valve_percent : c.valveHistory0.toNat ≤ 100

theorem controlInv_iff (s : State) : ControlInv s ↔ CtlInRange s.ctl :=
  ⟨fun h => ⟨h.1, h.2, h.3, h.4, h.5, h.6⟩, fun h => ⟨h.1, h.2, h.3, h.4, h.5, h.6⟩⟩

/-! ### The integrator -/

theorem sumBound_bounds (cfg : Cfg) : 0 ≤ sumBound cfg ∧ sumBound cfg ≤ 3276800 := by
  unfold sumBound tdiv
  rw [Int.tdiv_eq_ediv_of_nonneg (by decide)]
  exact ⟨Int.ediv_nonneg (by decide) (Int.natCast_nonneg _), Int.ediv_le_self _ (by decide)⟩

/-- The clamp of rule R226 keeps every sum under the largest bound. -/
theorem clampedSum_natAbs (cfg : Cfg) (sum : Int) : (clampedSum cfg sum).toInt.natAbs ≤ 3276800 := by
  obtain ⟨hnonneg, hle⟩ := sumBound_bounds cfg
  obtain ⟨hlo, hhi⟩ := clamp_bounds sum (-sumBound cfg) (sumBound cfg) (by omega)
  rw [clampedSum, toI32_toInt _ (by omega) (by omega)]
  omega

/-- The magnitude of an error that was clamped by rule R222 is stored as it is. -/
theorem toU16_natAbs {e : Int} (h : e.natAbs ≤ 1200) : (toU16 e.natAbs).toNat = e.natAbs := by
  have hfit := toU16_toNat (e.natAbs : Int) (by omega) (by omega)
  omega

/-- A credit that an i8 field holds without a sign (rule R36). -/
def CreditFits (g : Integ) : Prop := 0 ≤ g.credit ∧ g.credit ≤ 127

theorem creditStep_fits {cfg : Cfg} {c : CtlState} (e : Int) (hmax : cfg.pid.iMaxCredit.toNat ≤ 127)
    (hc : 0 ≤ c.integratorCredit.toInt) : CreditFits (creditStep cfg c e) := by
  have hlt := BitVec.toInt_lt (x := c.integratorCredit)
  unfold creditStep CreditFits
  split
  · dsimp only
    omega
  · split
    · dsimp only
      split <;> omega
    · dsimp only
      omega

theorem creditCost_pos (cfg : Cfg) (a : Nat) : 1 ≤ creditCost cfg a := Int.le_max_left ..

theorem accumulate_fits {cfg : Cfg} {c : CtlState} {e : Int} {g : Integ} (h : CreditFits g) :
    CreditFits (accumulate cfg c e g) := by
  obtain ⟨hlo, hhi⟩ := h
  have hcost := creditCost_pos cfg e.natAbs
  unfold accumulate CreditFits
  split
  · dsimp only
    split <;> omega
  · exact ⟨hlo, hhi⟩

theorem rollback_fits {cfg : Cfg} {c : CtlState} {e : Int} {g : Integ} (h : CreditFits g) :
    CreditFits (rollback cfg c e g) := by
  unfold rollback
  split <;> exact h

theorem CreditFits.stored_nonneg {g : Integ} (h : CreditFits g) : 0 ≤ (toI8 g.credit).toInt := by
  obtain ⟨hlo, hhi⟩ := h
  rwa [toI8_toInt _ (by omega) hhi]

theorem integratorStep_inRange {cfg : Cfg} {c : CtlState} {e : Int} (hmax : cfg.pid.iMaxCredit.toNat ≤ 127)
    (he : e.natAbs ≤ 1200) (h : CtlInRange c) : CtlInRange (integratorStep cfg c e) := by
  have hlast : (toU16 e.natAbs).toNat ≤ 1200 := Nat.le_trans (Nat.le_of_eq (toU16_natAbs he)) he
  unfold integratorStep
  split
  · exact { h with sum_bounded := clampedSum_natAbs .., last_error := hlast }
  · exact
      { h with
        sum_bounded := clampedSum_natAbs ..
        credit_nonneg := (rollback_fits (accumulate_fits (creditStep_fits e hmax h.credit_nonneg))).stored_nonneg
        last_error := hlast }

/-! ### The evaluation and its gate -/

theorem setpointChanged_inRange {cfg : Cfg} {c : CtlState} {eff : U8} {e : Int}
    (hmax : cfg.pid.iMaxCredit.toNat ≤ 127) (he : e.natAbs ≤ 1200) (h : CtlInRange c) :
    CtlInRange (setpointChanged cfg c eff e) := by
  have hcredit : 0 ≤ BitVec.toInt cfg.pid.iMaxCredit := by
    rw [BitVec.toInt_eq_toNat_of_lt (by omega)]
    omega
  have hsnap : (toU16 e.natAbs).toNat ≤ 1200 := Nat.le_trans (Nat.le_of_eq (toU16_natAbs he)) he
  unfold setpointChanged
  dsimp only
  split <;> exact { h with snap_bounded := h.sum_bounded, credit_nonneg := hcredit, snap_error := hsnap }

theorem boostOutput_percent {cfg : Cfg} (c : CtlState) (hlegal : cfgProblem cfg = none) :
    (boostOutput cfg c).toNat ≤ 100 := by
  obtain ⟨hle, hmax⟩ := legal_valve hlegal
  unfold boostOutput
  split <;> omega

theorem pidOutput_percent {cfg : Cfg} (old : U8) (sum : I32) (e : Int) (hlegal : cfgProblem cfg = none) :
    (pidOutput cfg old sum e).toNat ≤ 100 := by
  obtain ⟨hle, hmax⟩ := legal_valve hlegal
  unfold pidOutput
  generalize roundOutput cfg old _ = v
  obtain ⟨hlo, hhi⟩ := clamp_bounds v cfg.pid.valveMin.toNat cfg.pid.valveMax.toNat (by omega)
  have hfit := toU8_toNat (clamp v cfg.pid.valveMin.toNat cfg.pid.valveMax.toNat) (by omega) (by omega)
  omega

theorem evaluate_inRange {cfg : Cfg} {c : CtlState} (eff : U8) (changed : Bool) (t : I16)
    (hlegal : cfgProblem cfg = none) (h : CtlInRange c) : CtlInRange (evaluate cfg c eff changed t) := by
  have hmax := legal_credit hlegal
  have he : (pidError eff t).natAbs ≤ 1200 := by
    obtain ⟨hlo, hhi⟩ := pidError_bounds eff t
    omega
  have hstart : CtlInRange (if changed then setpointChanged cfg c eff (pidError eff t) else c) := by
    split
    · exact setpointChanged_inRange hmax he h
    · exact h
  have hstep := integratorStep_inRange hmax he hstart
  unfold evaluate
  dsimp only
  generalize integratorStep cfg (if changed then setpointChanged cfg c eff (pidError eff t) else c) _ = c1
    at hstep ⊢
  refine { hstep with valve_percent := ?_ }
  dsimp only
  split
  · exact boostOutput_percent _ hlegal
  · exact pidOutput_percent _ _ _ hlegal

theorem sentinelOutput_inRange {cfg : Cfg} {c : CtlState} (eff : U8) (h : CtlInRange c) :
    CtlInRange (sentinelOutput cfg c eff) := by
  refine { h with valve_percent := ?_ }
  unfold sentinelOutput
  dsimp only
  split <;> decide

theorem gatedEvaluation_inRange {cfg : Cfg} {c : CtlState} (eff : U8) (changed : Bool) (t : I16)
    (hlegal : cfgProblem cfg = none) (h : CtlInRange c) : CtlInRange (gatedEvaluation cfg c eff changed t) := by
  have hzero : CtlInRange { c with pidCounter := 0 } := { h with }
  unfold gatedEvaluation
  split
  · split
    · exact sentinelOutput_inRange eff hzero
    · exact evaluate_inRange eff changed t hlegal hzero
  · exact h

/-- `CTL_UPDATE` keeps the ranges under a legal configuration (rules R201, R222, R226). -/
theorem controlLaw_inRange {cfg : Cfg} (p : Ports) {c : CtlState} (hlegal : cfgProblem cfg = none)
    (h : CtlInRange c) : CtlInRange (controlLaw cfg p c) := by
  unfold controlLaw
  dsimp only
  split
  · exact { h with }
  · split
    · split
      · exact { h with valve_percent := boostOutput_percent _ hlegal }
      · exact gatedEvaluation_inRange _ _ _ hlegal { h with }
    · exact gatedEvaluation_inRange _ _ _ hlegal { h with }

/-! ### The other operations of the controller -/

theorem CtlState.setErr_inRange {c : CtlState} (m : U8) (h : CtlInRange c) : CtlInRange (c.setErr m) := { h with }

theorem CtlState.clearErr_inRange {c : CtlState} (m : U8) (h : CtlInRange c) : CtlInRange (c.clearErr m) := { h with }

theorem windowSample_inRange {cfg : WindowCfg} {p : Ports} {c : CtlState} (h : CtlInRange c) :
    CtlInRange (windowSample cfg p c) := by
  unfold windowSample
  split
  · exact h
  · exact { h with }

theorem windowHw_inRange {cfg : WindowCfg} {p : Ports} {c : CtlState} (h : CtlInRange c) :
    CtlInRange (windowHw cfg p c) := by
  have hreed : CtlInRange (reedDebounce cfg p.reed c) := by
    unfold reedDebounce
    split
    · exact { h with }
    · split <;> exact { h with }
  unfold windowHw
  split
  · exact h
  · exact { hreed with }

theorem batteryClass_inRange {cfg : BatteryCfg} {p : Ports} {c : CtlState} (h : CtlInRange c) :
    CtlInRange (batteryClass cfg p c) := by
  unfold batteryClass
  split
  · exact h
  · split
    · exact { h with }
    · split
      · split <;> exact { h with }
      · split
        · exact { h with }
        · exact h

theorem loadPreset_inRange {cfg : SetpointCfg} {t : U8} {c : CtlState} (h : CtlInRange c) :
    CtlInRange (loadPreset cfg t c) := { h with }

theorem schedFollow_inRange {cfg : SetpointCfg} {t : U8} {c : CtlState} (h : CtlInRange c) :
    CtlInRange (schedFollow cfg t c) := by
  unfold schedFollow
  split
  · exact loadPreset_inRange h
  · exact h

theorem pullSchedule_inRange {cfg : SetpointCfg} {t : U8} {c : CtlState} (h : CtlInRange c) :
    CtlInRange (pullSchedule cfg t c) := by
  unfold pullSchedule
  split
  · exact loadPreset_inRange h
  · exact { h with }

theorem changeMode_inRange {cfg : SetpointCfg} {t k : U8} {c d : CtlState} (h : CtlInRange c)
    (hd : changeMode cfg t k c = some d) : CtlInRange d := by
  unfold changeMode at hd
  split at hd
  · cases hd
    unfold modeToggle
    dsimp only
    split
    · exact pullSchedule_inRange { h with }
    · exact { h with }
  · split at hd
    · cases hd
      exact { h with }
    · split at hd
      · cases hd
        exact { h with }
      · split at hd <;> cases hd
        exact pullSchedule_inRange { h with }

theorem setWanted_inRange {cfg : Cfg} {v : Int} {c : CtlState} (h : CtlInRange c) :
    CtlInRange (setWanted cfg v c) := { h with }

/-! ### Every operation -/

theorem resetCtl_inRange (c : SetpointCfg) : CtlInRange (resetCtl c) := by
  constructor <;> simp [resetCtl]

theorem MotorFrame.inRange {s t : State} (hf : MotorFrame s t) (h : CtlInRange s.ctl) : CtlInRange t.ctl := by
  obtain hc | hc | hc := hf.ctl
  · exact hc ▸ h
  · exact hc ▸ s.ctl.setErr_inRange _ h
  · exact hc ▸ s.ctl.clearErr_inRange _ h

theorem ctlTick_inRange {s : State} (hlegal : cfgProblem s.cfg = none) (h : CtlInRange s.ctl) :
    CtlInRange (ctlTick s).ctl := by
  have hcal : ∀ (u : State) (r : U8), (cfgProblem u.cfg = none ∧ CtlInRange u.ctl) →
      cfgProblem (motUpdateCal u r).cfg = none ∧ CtlInRange (motUpdateCal u r).ctl := fun u r hu =>
    ⟨(motUpdateCal_frame u r).cfg ▸ hu.1, (motUpdateCal_frame u r).inRange hu.2⟩
  have hgoto : ∀ (u : State) (p : U8), (cfgProblem u.cfg = none ∧ CtlInRange u.ctl) →
      cfgProblem (motGoto u p).cfg = none ∧ CtlInRange (motGoto u p).ctl := fun u p hu =>
    ⟨(motGoto_drive u p).motor.cfg ▸ hu.1, (motGoto_drive u p).motor.inRange hu.2⟩
  have hslot : ∀ u : State, (cfgProblem u.cfg = none ∧ CtlInRange u.ctl) →
      cfgProblem (frmTxSlot u).cfg = none ∧ CtlInRange (frmTxSlot u).ctl := fun u hu =>
    ⟨(frmTxSlot_frame u).cfg ▸ hu.1, (frmTxSlot_frame u).ctl ▸ hu.2⟩
  exact (ctlTick_keeps (P := fun u => cfgProblem u.cfg = none ∧ CtlInRange u.ctl)
    (fun u m _ hu => ⟨hu.1, u.ctl.setErr_inRange m hu.2⟩) (fun u hu => ⟨hu.1, u.ctl.clearErr_inRange _ hu.2⟩)
    (fun _ hu => ⟨hu.1, schedFollow_inRange hu.2⟩) (fun _ hu => ⟨hu.1, windowHw_inRange hu.2⟩)
    (fun _ hu => ⟨hu.1, batteryClass_inRange hu.2⟩) (fun _ hu => ⟨hu.1, controlLaw_inRange _ hu.1 hu.2⟩)
    hgoto hcal hslot ⟨hlegal, h⟩).2

theorem pseudocode_controller_inRange {i : Instr} {s t : State} (hi : partOf i = .controller)
    (hlegal : cfgProblem s.cfg = none) (h : CtlInRange s.ctl) (hd : pseudocode i s = .done t) : CtlInRange t.ctl := by
  cases i with
  | ctlUpdate =>
    cases hd
    exact controlLaw_inRange _ hlegal h
  | ctlWindowSample =>
    cases hd
    exact windowSample_inRange h
  | ctlWindowHw =>
    cases hd
    exact windowHw_inRange h
  | ctlBattery =>
    cases hd
    exact batteryClass_inRange h
  | ctlSchedFollow =>
    cases hd
    exact schedFollow_inRange h
  | ctlChangeMode k =>
    obtain ⟨c, hc, rfl⟩ := changeModeEffect_done hd
    exact changeMode_inRange h hc
  | ctlTempChangeInc d =>
    cases hd
    exact setWanted_inRange h
  | ctlSetWanted v =>
    cases hd
    exact setWanted_inRange h
  | ctlErrAck m =>
    obtain rfl := errAckEffect_done hd
    exact s.ctl.clearErr_inRange m h
  | _ => cases hi

theorem pseudocode_inRange {i : Instr} {s t : State} (hr : i ≠ .sysReset) (hlegal : cfgProblem s.cfg = none)
    (h : CtlInRange s.ctl) (hd : pseudocode i s = .done t) : CtlInRange t.ctl := by
  cases hi : partOf i with
  | system => exact (pseudocode_system hi hr hd).ctl ▸ h
  | controller => exact pseudocode_controller_inRange hi hlegal h hd
  | motor => exact (pseudocode_motor hi hd).inRange h
  | radio => exact (pseudocode_radio hi hd).ctl ▸ h
  | tick =>
    cases i with
    | ctlTick =>
      cases hd
      exact ctlTick_inRange hlegal h
    | _ => cases hi

/-- Settles O59: an operation that is admitted runs under a legal configuration, which bounds all that the control law
stores. -/
theorem controlInvKept : Obligations.ControlInvKept := by
  intro s t hs hstep
  rw [controlInv_iff] at hs ⊢
  refine step_keeps (P := fun u => CtlInRange u.ctl) ?deliver ?mark ?reset ?own hs hstep
  case deliver => exact fun s d rest h => h
  case mark =>
    intro s t hm h
    cases hm <;> exact h
  case reset => exact fun s => resetCtl_inRange s.cfg.setpoint
  case own =>
    intro i s u hr ha h hd
    have hin := entered_frame i s
    rw [(leave_frame i u).ctl]
    exact pseudocode_inRange hr (hin.cfg ▸ ha.legal) (hin.ctl ▸ h) hd

end Sys2Proof.Machine

namespace Sys2Proof.Machine

/-! ## What the control law does not write -/

/-- The controller's state with the fields blanked that rule R31 gives to rule R201. -/
def CtlState.outsideLaw (c : CtlState) : CtlState :=
  { c with
    lastAppliedTemperature := 0, sumError := 0, integratorCredit := 0, creditExpiration := 0, blockCount := 0,
    snapSum := 0, snapAbs := 0, lastErrorSign := .zero, lastAbsError := 0, valveHistory0 := 0, pidCounter := 0,
    boostSecs := 0, boostDir := .zero }

theorem setpointChanged_outsideLaw (cfg : Cfg) (c : CtlState) (eff : U8) (e : Int) :
    (setpointChanged cfg c eff e).outsideLaw = c.outsideLaw := by
  unfold setpointChanged
  dsimp only
  split <;> rfl

theorem integratorStep_outsideLaw (cfg : Cfg) (c : CtlState) (e : Int) :
    (integratorStep cfg c e).outsideLaw = c.outsideLaw := by
  unfold integratorStep
  split <;> rfl

theorem evaluate_outsideLaw (cfg : Cfg) (c : CtlState) (eff : U8) (changed : Bool) (t : I16) :
    (evaluate cfg c eff changed t).outsideLaw = c.outsideLaw := by
  have hstep :
      (evaluate cfg c eff changed t).outsideLaw =
        (integratorStep cfg (if changed then setpointChanged cfg c eff (pidError eff t) else c)
          (pidError eff t)).outsideLaw := rfl
  rw [hstep, integratorStep_outsideLaw]
  split
  · exact setpointChanged_outsideLaw ..
  · rfl

theorem gatedEvaluation_outsideLaw (cfg : Cfg) (c : CtlState) (eff : U8) (changed : Bool) (t : I16) :
    (gatedEvaluation cfg c eff changed t).outsideLaw = c.outsideLaw := by
  unfold gatedEvaluation
  split
  · split
    · rfl
    · exact evaluate_outsideLaw ..
  · rfl

theorem controlLaw_outsideLaw (cfg : Cfg) (p : Ports) (c : CtlState) :
    (controlLaw cfg p c).outsideLaw = c.outsideLaw := by
  unfold controlLaw
  dsimp only
  split
  · rfl
  · split
    · split
      · rfl
      · exact gatedEvaluation_outsideLaw ..
    · exact gatedEvaluation_outsideLaw ..

/-- Settles O17: the fields that rule R31 does not give to the control law are those that `outsideLaw` keeps. -/
theorem updateFrame : Obligations.UpdateFrame := by
  intro s ha
  have hlaw := controlLaw_outsideLaw s.cfg s.env.ports s.ctl
  refine ⟨ctlUpdate s, congrArg Host.Outcome.next (internalOp_pass s _ ha.live ha.legal ha.context ha.booted), rfl, ?_⟩
  exact ⟨(congrArg CtlState.wantedTemperature hlaw :), (congrArg CtlState.scheduleTemperatureType hlaw :),
    (congrArg CtlState.autoMode hlaw :), (congrArg CtlState.windowOpenState hlaw :),
    (congrArg CtlState.errorFlags hlaw :), (congrArg CtlState.savedAuto hlaw :), (congrArg CtlState.savedType hlaw :),
    (congrArg CtlState.savedWanted hlaw :), (congrArg CtlState.winHist hlaw :),
    (congrArg CtlState.reedTrusted hlaw :), (congrArg CtlState.reedCount hlaw :)⟩

end Sys2Proof.Machine

namespace Sys2Proof.Machine

/-! ## The system invariants

An operation that passes the gate after boot finds and keeps the part of the system invariants that does not speak of
the time before boot. Inside a handler `inIsr` is 1, so its value is a parameter (rules R507, R508). -/

/-- The system invariants while an operation runs after boot. -/
structure RunningInv (isr : Bool) (s : State) : Prop where
  in_isr : s.sys.inIsr = isr
  booted : s.sys.booted = true
  running : s.sys.halted = false
  task_reserved : s.sys.taskFlags &&& 0xF8 = 0
  error_reserved : s.ctl.errorFlags &&& 0x07 = 0
  sleep_no_task : s.sys.sleeping = true → s.sys.taskFlags = 0

theorem RunningInv.systemInv {s : State} (h : RunningInv false s) : SystemInv s where
  not_in_isr := h.in_isr
  task_reserved := h.task_reserved
  error_reserved := h.error_reserved
  sleep_no_task := h.sleep_no_task
  gie_booted _ := h.booted
  unbooted_idle hb := absurd (h.booted.symm.trans hb) (by decide)
  halted_unbooted hh := absurd (h.running.symm.trans hh) (by decide)

/-! ### The masks respect the reserved bits -/

theorem or_reserved {a m r : U8} (ha : a &&& r = 0) (hm : m &&& r = 0) : (a ||| m) &&& r = 0 := by
  rw [BitVec.and_or_distrib_right, ha, hm]
  rfl

theorem andNot_reserved {a r : U8} (m : U8) (ha : a &&& r = 0) : (a &&& ~~~m) &&& r = 0 := by
  rw [BitVec.and_assoc, BitVec.and_comm (~~~m), ← BitVec.and_assoc, ha]
  exact BitVec.zero_and

theorem taskMask_reserved (f : TaskFlag) : taskMask f &&& 0xF8 = 0 := by cases f <;> rfl

/-! ### What keeps them -/

section
variable {isr : Bool} {s t : State}

theorem RunningInv.congr (h : RunningInv isr s) (hsys : t.sys = s.sys) (herr : t.ctl.errorFlags &&& 0x07 = 0) :
    RunningInv isr t := by
  obtain ⟨hisr, hbooted, hrunning, htask, -, hsleep⟩ := h
  rw [← hsys] at hisr hbooted hrunning htask hsleep
  exact ⟨hisr, hbooted, hrunning, htask, herr, hsleep⟩

theorem RunningInv.post (h : RunningInv isr s) (f : TaskFlag) : RunningInv isr (s.post f) :=
  { h with
    task_reserved := or_reserved h.task_reserved (taskMask_reserved f)
    sleep_no_task := fun hsleep => nomatch hsleep }

theorem RunningInv.clearTask (h : RunningInv isr s) (f : TaskFlag) : RunningInv isr (s.clearTask f) :=
  { h with
    task_reserved := andNot_reserved _ h.task_reserved
    sleep_no_task := fun hsleep => by
      rw [State.clearTask_sys_taskFlags, h.sleep_no_task hsleep]
      exact BitVec.zero_and }

theorem RunningInv.setErr (h : RunningInv isr s) {m : U8} (hm : m &&& 0x07 = 0) : RunningInv isr (s.setErr m) :=
  { h with error_reserved := or_reserved h.error_reserved hm }

theorem RunningInv.clearErr (h : RunningInv isr s) (m : U8) : RunningInv isr (s.clearErr m) :=
  { h with error_reserved := andNot_reserved m h.error_reserved }

theorem RunningInv.of_motor (h : RunningInv isr s) (hf : MotorFrame s t) : RunningInv isr t := by
  have herr : t.ctl.errorFlags &&& 0x07 = 0 := by
    obtain hc | hc | hc := hf.ctl
    · exact hc ▸ h.error_reserved
    · exact hc ▸ (h.setErr (m := errMotor) rfl).error_reserved
    · exact hc ▸ (h.clearErr errMotor).error_reserved
  obtain hs | hs | hs := hf.sys
  · exact h.congr hs herr
  · exact (h.post .motorStop).congr hs herr
  · exact (h.clearTask .motorStop).congr hs herr

theorem RunningInv.of_radio (h : RunningInv isr s) (hf : RadioFrame s t) : RunningInv isr t := by
  have herr : t.ctl.errorFlags &&& 0x07 = 0 := hf.ctl ▸ h.error_reserved
  have hirq : ∀ {u : State} (b : Bool), RunningInv isr u → RunningInv isr (setRfmIrq u b) := fun _ hu => { hu with }
  obtain ⟨b, hs | hs⟩ := hf.sys
  · exact (hirq b h).congr hs herr
  · exact (hirq b (h.post .rfm)).congr hs herr

/-- An operation that writes the controller only, and not the error flags. -/
theorem RunningInv.of_controller (h : RunningInv isr s) (hf : ControllerFrame s t)
    (herr : t.ctl.errorFlags = s.ctl.errorFlags) : RunningInv isr t :=
  h.congr (congrArg State.sys hf.rest :) (herr ▸ h.error_reserved)

end

/-! ### The error flags and the controller's operations -/

theorem windowSample_errorFlags (cfg : WindowCfg) (p : Ports) (c : CtlState) :
    (windowSample cfg p c).errorFlags = c.errorFlags := by
  unfold windowSample
  split <;> rfl

theorem windowHw_errorFlags (cfg : WindowCfg) (p : Ports) (c : CtlState) :
    (windowHw cfg p c).errorFlags = c.errorFlags := by
  have hreed : (reedDebounce cfg p.reed c).errorFlags = c.errorFlags := by
    unfold reedDebounce
    split
    · rfl
    · split <;> rfl
  unfold windowHw
  split
  · rfl
  · exact hreed

theorem schedFollow_errorFlags (cfg : SetpointCfg) (t : U8) (c : CtlState) :
    (schedFollow cfg t c).errorFlags = c.errorFlags := by
  unfold schedFollow
  split <;> rfl

theorem pullSchedule_errorFlags (cfg : SetpointCfg) (t : U8) (c : CtlState) :
    (pullSchedule cfg t c).errorFlags = c.errorFlags := by
  unfold pullSchedule
  split <;> rfl

theorem changeMode_errorFlags {cfg : SetpointCfg} {t k : U8} {c d : CtlState} (h : changeMode cfg t k c = some d) :
    d.errorFlags = c.errorFlags := by
  unfold changeMode at h
  split at h
  · cases h
    unfold modeToggle
    dsimp only
    split
    · exact pullSchedule_errorFlags ..
    · rfl
  · split at h
    · cases h
      rfl
    · split at h
      · cases h
        rfl
      · split at h <;> cases h
        exact pullSchedule_errorFlags ..

theorem batteryClass_reserved {cfg : BatteryCfg} {p : Ports} {c : CtlState} (h : c.errorFlags &&& 0x07 = 0) :
    (batteryClass cfg p c).errorFlags &&& 0x07 = 0 := by
  unfold batteryClass
  split
  · exact h
  · split
    · exact or_reserved h rfl
    · split
      · split
        · exact andNot_reserved _ (or_reserved h rfl)
        · exact or_reserved h rfl
      · split
        · exact andNot_reserved _ h
        · exact h

theorem pseudocode_controller_running {isr : Bool} {i : Instr} {s t : State} (hi : partOf i = .controller)
    (h : RunningInv isr s) (hd : pseudocode i s = .done t) : RunningInv isr t := by
  cases i with
  | ctlUpdate =>
    cases hd
    exact h.of_controller ⟨rfl⟩ (congrArg CtlState.errorFlags (controlLaw_outsideLaw ..) :)
  | ctlWindowSample =>
    cases hd
    exact h.of_controller ⟨rfl⟩ (windowSample_errorFlags ..)
  | ctlWindowHw =>
    cases hd
    exact h.of_controller ⟨rfl⟩ (windowHw_errorFlags ..)
  | ctlBattery =>
    cases hd
    exact h.congr rfl (batteryClass_reserved h.error_reserved)
  | ctlSchedFollow =>
    cases hd
    exact h.of_controller ⟨rfl⟩ (schedFollow_errorFlags ..)
  | ctlChangeMode k =>
    obtain ⟨c, hc, rfl⟩ := changeModeEffect_done hd
    exact h.of_controller ⟨rfl⟩ (changeMode_errorFlags hc)
  | ctlTempChangeInc d =>
    cases hd
    exact h.of_controller ⟨rfl⟩ rfl
  | ctlSetWanted v =>
    cases hd
    exact h.of_controller ⟨rfl⟩ rfl
  | ctlErrAck m =>
    obtain rfl := errAckEffect_done hd
    exact h.clearErr m
  | _ => cases hi

/-! ### Every operation -/

theorem pseudocode_system_running {isr : Bool} {i : Instr} {s t : State} (hi : partOf i = .system)
    (hr : i ≠ .sysReset) (hb : i ≠ .sysBoot) (h : RunningInv isr s) (hd : pseudocode i s = .done t) :
    RunningInv isr t := by
  cases i with
  | sysReset => exact absurd rfl hr
  | sysBoot => exact absurd rfl hb
  | sysSleep =>
    obtain ⟨hflags, rfl⟩ := sysSleep_done hd
    exact { h with sleep_no_task := fun _ => hflags }
  | evRtcSecond =>
    cases hd
    exact h.post .tick
  | sysCli | sysSei | evTmrTick =>
    cases hd
    exact { h with }
  | _ => cases hi

theorem ctlTick_running {isr : Bool} {s : State} (h : RunningInv isr s) : RunningInv isr (ctlTick s) :=
  ctlTick_keeps (P := RunningInv isr)
    (fun _ _ hm hu => hu.setErr (by obtain rfl | rfl := hm <;> rfl)) (fun _ hu => hu.clearErr _)
    (fun _ hu => hu.of_controller ⟨rfl⟩ (schedFollow_errorFlags ..))
    (fun _ hu => hu.of_controller ⟨rfl⟩ (windowHw_errorFlags ..))
    (fun _ hu => hu.congr rfl (batteryClass_reserved hu.error_reserved))
    (fun _ hu => hu.of_controller ⟨rfl⟩ (congrArg CtlState.errorFlags (controlLaw_outsideLaw ..) :))
    (fun _ _ hu => hu.of_motor (motGoto_drive ..).motor) (fun _ _ hu => hu.of_motor (motUpdateCal_frame ..))
    (fun _ hu => hu.of_radio (frmTxSlot_frame _)) h

theorem pseudocode_running {isr : Bool} {i : Instr} {s t : State} (hr : i ≠ .sysReset) (hb : i ≠ .sysBoot)
    (h : RunningInv isr s) (hd : pseudocode i s = .done t) : RunningInv isr t := by
  cases hi : partOf i with
  | system => exact pseudocode_system_running hi hr hb h hd
  | controller => exact pseudocode_controller_running hi h hd
  | motor => exact h.of_motor (pseudocode_motor hi hd)
  | radio => exact h.of_radio (pseudocode_radio hi hd)
  | tick =>
    cases i with
    | ctlTick =>
      cases hd
      exact ctlTick_running h
    | _ => cases hi

/-! ### Entry, return and boot -/

theorem Admitted.not_halted {i : Instr} {s : State} (h : Admitted i s) : s.sys.halted = false := by
  have hlive := h.live
  simp only [State.live, Bool.and_eq_true, Bool.not_eq_true'] at hlive
  exact hlive.1.1

theorem SystemInv.runningInv {s : State} (h : SystemInv s) (hbooted : s.sys.booted = true)
    (hrunning : s.sys.halted = false) : RunningInv false s :=
  ⟨h.not_in_isr, hbooted, hrunning, h.task_reserved, h.error_reserved, h.sleep_no_task⟩

theorem RunningInv.entered {s : State} (h : RunningInv false s) (i : Instr) :
    RunningInv (i.context == .interrupt) (entered i s) := by
  unfold Machine.entered
  cases i.context with
  | any => exact h
  | internal => exact h
  | interrupt => exact { h with in_isr := rfl, sleep_no_task := fun hsleep => nomatch hsleep }
  | task =>
    cases taskOf i with
    | none => exact { h with sleep_no_task := fun hsleep => nomatch hsleep }
    | some f => exact h.clearTask f

theorem RunningInv.leave {i : Instr} {u : State} (h : RunningInv (i.context == .interrupt) u) :
    RunningInv false (leave i u) := by
  unfold Machine.leave
  cases hctx : i.context with
  | interrupt => exact { h with in_isr := rfl }
  | any | internal | task =>
    rw [hctx] at h
    exact h

/-- Boot is the one operation that runs before boot (rules R525, R601, R602). -/
theorem sysBoot_systemInv {s t : State} (h : SystemInv s) (hrunning : s.sys.halted = false)
    (hd : sysBoot (wake s) = .done t) : SystemInv t := by
  obtain ⟨hunbooted, ⟨u, hu, -, hsys, rfl⟩ | rfl⟩ := sysBoot_done hd
  · refine RunningInv.systemInv ⟨?_, rfl, ?_, ?_, ?_, ?_⟩
    · exact (congrArg SysState.inIsr hsys).trans h.not_in_isr
    · exact (congrArg SysState.halted hsys).trans hrunning
    · rw [hsys]
      exact h.task_reserved
    · rw [hu.ctl]
      exact h.error_reserved
    · rw [hsys]
      exact fun hsleep => nomatch hsleep
  · exact
      { not_in_isr := h.not_in_isr
        task_reserved := h.task_reserved
        error_reserved := h.error_reserved
        sleep_no_task := fun hsleep => nomatch hsleep
        gie_booted := h.gie_booted
        unbooted_idle := h.unbooted_idle
        halted_unbooted := fun _ => hunbooted }

theorem OnlyMarked.systemInv {s t : State} (hm : OnlyMarked s t) (h : SystemInv s) : SystemInv t := by
  cases hm with
  | same => exact h
  | refused r => exact { h with }
  | fault c x => exact { h with }

theorem resetState_systemInv (s : State) : SystemInv (resetState s) where
  not_in_isr := rfl
  task_reserved := BitVec.zero_and
  error_reserved := BitVec.zero_and
  sleep_no_task _ := rfl
  gie_booted h := nomatch h
  unbooted_idle _ := ⟨rfl, rfl⟩
  halted_unbooted _ := rfl

/-- Settles O58: before boot only `SYS_BOOT` is admitted; after it every operation keeps `RunningInv`. -/
theorem systemInvKept : Obligations.SystemInvKept := by
  intro s t hs hstep
  refine step_keeps (P := SystemInv) ?deliver ?mark ?reset ?own hs hstep
  case deliver => exact fun s d rest h => { h with }
  case mark => exact fun s t hm h => hm.systemInv h
  case reset => exact resetState_systemInv
  case own =>
    intro i s u hr ha h hd
    by_cases hb : i = .sysBoot
    · subst hb
      exact sysBoot_systemInv h ha.not_halted hd
    · have hrun := h.runningInv (ha.booted hr hb) ha.not_halted
      exact (pseudocode_running hr hb (hrun.entered i) hd).leave.systemInv

end Sys2Proof.Machine

namespace Sys2Proof.Machine

/-! ## Refused configurations -/

theorem cfgProblem_historyLen {c : Cfg} (h : c.pid.valveHistoryLen ≠ 1) : cfgProblem c = some .historyLen :=
  if_pos h

theorem cfgProblem_dTerm {c : Cfg} (hlen : c.pid.valveHistoryLen = 1) (h : c.pid.enableD = true) :
    cfgProblem c = some .dTerm := by
  simp [cfgProblem, hlen, h]

theorem cfgProblem_cfg {c : Cfg} (hlen : c.pid.valveHistoryLen = 1) (hd : c.pid.enableD = false)
    (h : (boundsHold c && initFits c.init) = false) : cfgProblem c = some .cfg := by
  simp [cfgProblem, hlen, hd, h]

/-- An operation that the gate is asked about is refused under an illegal configuration (rule R504). -/
theorem exec_illegal {i : Instr} {s : State} {r : RefuseReason} (hr : i ≠ .sysReset) (hl : s.live = true)
    (htaken : notTaken i s = false) (hc : cfgProblem s.cfg = some r) : exec i s = .next (markRefused s r) := by
  rw [exec_eq_gate i s hr, htaken]
  exact congrArg Host.Outcome.next (passGate_illegal _ _ hl hc)

/-- An event from another issuer than its source is answered by the gate, and an enabled one is taken (rule R502). -/
theorem notTaken_of_enabled {i : Instr} {s : State} (hl : s.live = true)
    (h : i.context = .interrupt → s.env.issuer ≠ .source ∨ EventEnabled i s) : notTaken i s = false := by
  unfold notTaken
  split
  next hctx =>
    obtain hi | he := h hctx
    · simp [hi]
    · have hcond : eventCondition i s = true := by
        unfold eventCondition
        split
        · simp [he.tick rfl]
        · exact he.watchdog rfl
        · simp [he.edge rfl]
        · rfl
      simp [hl, he.enabled, hcond]
  all_goals rfl

/-- Settles O9: the gate checks the configuration first, and `cfgProblem` names the reasons in the order of R504. -/
theorem illegalConfigRefused : Obligations.IllegalConfigRefused := by
  intro i s hl hr hev
  have htaken := notTaken_of_enabled hl hev
  refine ⟨fun hlen => ?_, fun hlen hd => ?_, fun hlen hd hbad => ?_⟩
  · exact exec_illegal hr hl htaken (cfgProblem_historyLen hlen)
  · exact exec_illegal hr hl htaken (cfgProblem_dTerm hlen hd)
  · refine exec_illegal hr hl htaken (cfgProblem_cfg hlen hd (Bool.eq_false_iff.mpr fun hok => ?_))
    simp only [boundsHold, initFits, fits, Bool.and_eq_true, decide_eq_true_eq, Nat.reducePow] at hok
    omega

/-! ## The sole writers of four fields -/

/-- The configuration, the persisted hint and the time base are as they were. -/
structure SharedKept (s t : State) : Prop where
  cfg : t.cfg = s.cfg
  nv : t.nv = s.nv
  now : t.sys.now = s.sys.now

theorem SharedKept.refl (s : State) : SharedKept s s := ⟨rfl, rfl, rfl⟩

theorem SharedKept.trans {s t u : State} (h : SharedKept s t) (k : SharedKept t u) : SharedKept s u :=
  ⟨k.cfg.trans h.cfg, k.nv.trans h.nv, k.now.trans h.now⟩

theorem entered_shared (i : Instr) (s : State) : SharedKept s (entered i s) :=
  ⟨(entered_frame i s).cfg, (entered_frame i s).nv, entered_now i s⟩

theorem leave_shared (i : Instr) (s : State) : SharedKept s (leave i s) :=
  ⟨(leave_frame i s).cfg, (leave_frame i s).nv, leave_now i s⟩

theorem ControllerFrame.shared {s t : State} (h : ControllerFrame s t) : SharedKept s t :=
  ⟨(congrArg State.cfg h.rest :), (congrArg State.nv h.rest :), (congrArg (fun x : State => x.sys.now) h.rest :)⟩

theorem MotorFrame.now {s t : State} (h : MotorFrame s t) : t.sys.now = s.sys.now := by
  obtain hs | hs | hs := h.sys
  · rw [hs]
  · rw [hs, State.post_sys_now]
  · rw [hs, State.clearTask_sys_now]

theorem MotorFrame.shared {s t : State} (h : MotorFrame s t) (hnv : t.nv = s.nv) : SharedKept s t :=
  ⟨h.cfg, hnv, h.now⟩

theorem DriveFrame.shared {s t : State} (h : DriveFrame s t) : SharedKept s t := h.motor.shared h.nv

theorem RadioFrame.shared {s t : State} (h : RadioFrame s t) : SharedKept s t := by
  refine ⟨h.cfg, h.nv, ?_⟩
  obtain ⟨b, hs | hs⟩ := h.sys
  · rw [hs]
  · rw [hs]
    rfl

theorem ctlTick_shared (s : State) : SharedKept s (ctlTick s) :=
  ctlTick_keeps (P := SharedKept s)
    (fun _ _ _ hu => hu.trans (ControllerFrame.shared ⟨rfl⟩)) (fun _ hu => hu.trans (ControllerFrame.shared ⟨rfl⟩))
    (fun _ hu => hu.trans (ControllerFrame.shared ⟨rfl⟩)) (fun _ hu => hu.trans (ControllerFrame.shared ⟨rfl⟩))
    (fun _ hu => hu.trans (ControllerFrame.shared ⟨rfl⟩)) (fun _ hu => hu.trans (ControllerFrame.shared ⟨rfl⟩))
    (fun _ _ hu => hu.trans (motGoto_drive ..).shared)
    (fun _ _ hu => hu.trans ((motUpdateCal_frame ..).shared (motUpdateCal_nv ..)))
    (fun _ hu => hu.trans (frmTxSlot_frame _).shared) (.refl s)

theorem pseudocode_system_shared {i : Instr} {s t : State} (hi : partOf i = .system) (hr : i ≠ .sysReset)
    (ht : i ≠ .evTmrTick) (hd : pseudocode i s = .done t) : SharedKept s t := by
  have hf := pseudocode_system hi hr hd
  refine ⟨hf.cfg, hf.nv, ?_⟩
  cases i with
  | sysReset => exact absurd rfl hr
  | evTmrTick => exact absurd rfl ht
  | sysBoot =>
    obtain ⟨-, ⟨u, -, -, hsys, rfl⟩ | rfl⟩ := sysBoot_done hd
    · exact (congrArg SysState.now hsys :)
    · rfl
  | sysSleep =>
    obtain ⟨-, rfl⟩ := sysSleep_done hd
    rfl
  | sysCli | sysSei | evRtcSecond =>
    cases hd
    rfl
  | _ => cases hi

theorem pseudocode_motor_nv {i : Instr} {s t : State} (hi : partOf i = .motor) (hm : i ≠ .motTimerStop)
    (hd : pseudocode i s = .done t) : t.nv = s.nv := by
  cases i with
  | motTimerStop => exact absurd rfl hm
  | motGoto p =>
    cases hd
    exact (motGoto_drive s p).nv
  | motUpdateCal r =>
    cases hd
    exact motUpdateCal_nv s r
  | motTimerPulse q =>
    cases hd
    exact (motTimerPulse_drive s q).nv
  | evEyeEdge l =>
    cases hd
    exact (eyeEdge_drive s l).nv
  | motGetPosPercent | evMotorWdt =>
    cases hd
    rfl
  | _ => cases hi

/-- The timer tick and the end of calibration are the only ones to write a shared field (rules R52, R60, R66). -/
theorem pseudocode_shared {i : Instr} {s t : State} (hr : i ≠ .sysReset) (ht : i ≠ .evTmrTick)
    (hm : i ≠ .motTimerStop) (hd : pseudocode i s = .done t) : SharedKept s t := by
  cases hi : partOf i with
  | system => exact pseudocode_system_shared hi hr ht hd
  | controller => exact (pseudocode_controller hi hd).shared
  | motor => exact (pseudocode_motor hi hd).shared (pseudocode_motor_nv hi hm hd)
  | radio => exact (pseudocode_radio hi hd).shared
  | tick =>
    cases i with
    | ctlTick =>
      cases hd
      exact ctlTick_shared s
    | _ => cases hi

/-- The calibration step belongs to `MOT_UPDATE_CAL`, `MOT_TIMER_STOP` and the tick (rule R43). -/
theorem pseudocode_calibrationStep {i : Instr} {s t : State} (hr : i ≠ .sysReset) (hm : i ≠ .motTimerStop)
    (htick : i ≠ .ctlTick) (hcal : ∀ r, i ≠ .motUpdateCal r) (hd : pseudocode i s = .done t) :
    t.mot.calibrationStep = s.mot.calibrationStep := by
  cases hi : partOf i with
  | system => exact congrArg MotState.calibrationStep (pseudocode_system hi hr hd).mot
  | controller => exact (congrArg (fun x : State => x.mot.calibrationStep) (pseudocode_controller hi hd).rest :)
  | radio => exact congrArg MotState.calibrationStep (pseudocode_radio hi hd).mot
  | motor =>
    cases i with
    | motTimerStop => exact absurd rfl hm
    | motUpdateCal r => exact absurd rfl (hcal r)
    | motGoto p =>
      cases hd
      exact (motGoto_drive s p).calibrationStep
    | motTimerPulse q =>
      cases hd
      exact (motTimerPulse_drive s q).calibrationStep
    | evEyeEdge l =>
      cases hd
      exact (eyeEdge_drive s l).calibrationStep
    | motGetPosPercent | evMotorWdt =>
      cases hd
      rfl
    | _ => cases hi
  | tick =>
    cases i with
    | ctlTick => exact absurd rfl htick
    | _ => cases hi

/-- The hint is written where the drive to the close endstop ends the calibration (rules R52, R313). -/
theorem motTimerStop_nv (s : State) :
    (motTimerStop s).nv = s.nv ∨
      (s.mot.calibrationStep = .toClose ∧ (motTimerStop s).mot.calibrationStep = .calibrated) := by
  unfold motTimerStop
  dsimp only
  split
  · unfold openEndstop
    split
    · split <;> exact .inl rfl
    · exact .inl rfl
  next hcal =>
    unfold closeEndstop
    split
    · split
      · exact .inr ⟨hcal, rfl⟩
      · exact .inl rfl
    · exact .inl rfl
  · unfold finishMove
    split
    · exact .inl rfl
    · exact .inl rfl
    · split
      · split <;> exact .inl rfl
      · split <;> exact .inl rfl
  all_goals exact .inl rfl

/-- Settles O11: by cases on what an operation can answer, and then on whether it is one of the writers. -/
theorem soleWriters : Obligations.SoleWriters := by
  intro i s t h
  obtain ⟨rfl, rfl⟩ | hm | ⟨hr, -, u, hd, rfl⟩ := exec_cases h
  · exact ⟨rfl, fun hnv => absurd rfl hnv, fun _ => .inl rfl, fun _ => .inl rfl⟩
  · cases hm
    all_goals
      exact ⟨rfl, fun hnv => absurd rfl hnv, fun hnow => absurd rfl hnow, fun hcal => absurd rfl hcal⟩
  · have hcalibration : (leave i u).mot.calibrationStep ≠ s.mot.calibrationStep →
        i = .sysReset ∨ i = .motTimerStop ∨ i = .ctlTick ∨ ∃ r, i = .motUpdateCal r := by
      rw [(leave_frame i u).mot, ← (entered_frame i s).mot]
      refine fun hchange => Classical.byContradiction fun hnot => ?_
      simp only [not_or, not_exists] at hnot
      obtain ⟨hr, hm, htick, hcal⟩ := hnot
      exact hchange (pseudocode_calibrationStep hr hm htick hcal hd)
    by_cases ht : i = .evTmrTick
    · subst ht
      cases hd
      exact ⟨rfl, fun hnv => absurd rfl hnv, fun _ => .inr ⟨rfl, rfl⟩, hcalibration⟩
    by_cases hm : i = .motTimerStop
    · subst hm
      cases hd
      have hframe := motTimerStop_frame (s.clearTask .motorStop)
      exact ⟨hframe.cfg, fun hnv => ⟨rfl, (motTimerStop_nv _).resolve_left hnv⟩,
        fun hnow => absurd hframe.now hnow, hcalibration⟩
    have hshared := ((entered_shared i s).trans (pseudocode_shared hr ht hm hd)).trans (leave_shared i u)
    exact ⟨hshared.cfg, fun hnv => absurd hshared.nv hnv, fun hnow => absurd hshared.now hnow, hcalibration⟩

end Sys2Proof.Machine

namespace Sys2Proof.Machine

/-! ## Accepted commands -/

theorem AcceptsCommand.hostCommand_eq {s : State} (h : AcceptsCommand s) (own : State → Effect) :
    hostCommand s own = settle s (own (wake s)) :=
  hostCommand_pass s own h.live h.legal h.context h.outside h.booted

/-! ### The mode of the controller -/

theorem preset_getD (c : SetpointCfg) {t : U8} (h : t.toNat < 4) :
    [c.tPreset0, c.tPreset1, c.tPreset2, c.tPreset3].getD t.toNat 0 = preset c t := by
  have hcode : t = 0 ∨ t = 1 ∨ t = 2 ∨ t = 3 := by bv_omega
  obtain rfl | rfl | rfl | rfl := hcode <;> rfl

/-- Under legal bounds the clamp of rule R32 is stored as it is. -/
theorem clampT_toNat {c : Cfg} (hlegal : cfgProblem c = none) (v : Int) :
    ((clampT c.setpoint v).toNat : Int) =
      clamp v ((c.setpoint.tempMin.toNat : Int) - 1) ((c.setpoint.tempMax.toNat : Int) + 1) := by
  obtain ⟨hmin, hle, hmax⟩ := legal_setpoint hlegal
  obtain ⟨hlo, hhi⟩ :=
    clamp_bounds v ((c.setpoint.tempMin.toNat : Int) - 1) ((c.setpoint.tempMax.toNat : Int) + 1) (by omega)
  exact toU8_toNat _ (by omega) (by omega)

/-- The setpoint that pulling the schedule leaves: the preset of a valid type, else the old one (rule R211). -/
def pulledSetpoint (cfg : SetpointCfg) (t : U8) (wanted : U8) : U8 :=
  if t.toNat < 4 then clampT cfg (preset cfg t).toNat else wanted

theorem pullSchedule_eq (cfg : SetpointCfg) (t : U8) (c : CtlState) :
    pullSchedule cfg t c =
      { c with
        scheduleTemperatureType := if t.toNat < 4 then t else 0xFF
        wantedTemperature := pulledSetpoint cfg t c.wantedTemperature } := by
  unfold pullSchedule pulledSetpoint validType
  by_cases h : t.toNat < 4
  · simp only [h, decide_true, if_true]
    rfl
  · simp only [h, decide_false, if_false, Bool.false_eq_true]

/-- The selection is saved; entering automatic mode pulls the schedule (rule R207). -/
theorem modeToggle_eq (cfg : SetpointCfg) (t : U8) (c : CtlState) :
    modeToggle cfg t c =
      let saved :=
        { c with savedAuto := c.autoMode, savedType := c.scheduleTemperatureType, savedWanted := c.wantedTemperature }
      if c.autoMode then { saved with autoMode := false }
      else
        { saved with
          autoMode := true
          scheduleTemperatureType := if t.toNat < 4 then t else 0xFF
          wantedTemperature := pulledSetpoint cfg t c.wantedTemperature } := by
  unfold modeToggle
  cases c.autoMode with
  | true => rfl
  | false =>
    dsimp only
    rw [pullSchedule_eq]
    rfl

theorem changeModeEffect_badArg {s : State} {k : U8} (h0 : k ≠ 0) (h1 : k ≠ 1) (h2 : k ≠ 2) (h3 : k ≠ 3) :
    changeModeEffect s k = .refuse .badArg := by
  have hnone : changeMode s.cfg.setpoint s.env.ports.schedType k s.ctl = none := by
    rw [changeMode, if_neg h0, if_neg h1, if_neg h2, if_neg h3]
  rw [changeModeEffect, hnone]

/-- Settles O28: the four operands are the four branches of `changeMode`, two of which pull the schedule. -/
theorem changeModeResult : Obligations.ChangeModeResult := by
  intro s k ha
  refine ⟨pulledSetpoint s.cfg.setpoint s.env.ports.schedType s.ctl.wantedTemperature, fun hvalid => ?_,
    fun hinvalid => if_neg hinvalid, ?_⟩
  · rw [pulledSetpoint, if_pos hvalid, clampT_toNat ha.legal, preset_getD _ hvalid]
  · refine congrArg Host.Outcome.next ((ha.hostCommand_eq (changeModeEffect · k)).trans ?_)
    split
    next h0 =>
      subst h0
      change { wake s with ctl := modeToggle s.cfg.setpoint s.env.ports.schedType s.ctl } = _
      rw [modeToggle_eq]
      rfl
    next h0 =>
      split
      next h1 =>
        subst h1
        rfl
      next h1 =>
        split
        next h2 =>
          subst h2
          rfl
        next h2 =>
          split
          next h3 =>
            subst h3
            change
              { wake s with
                ctl := pullSchedule s.cfg.setpoint s.env.ports.schedType { s.ctl with autoMode := true } } = _
            rw [pullSchedule_eq]
            rfl
          next h3 => rw [changeModeEffect_badArg h0 h1 h2 h3, settle_refuse]

/-! ### The position port -/

theorem posPercent_toNat (m : MotState) :
    ((posPercent m).toNat : Int) =
      if m.calibrationStep ≠ .calibrated ∨ m.maxPulses = 0 then 255
      else clamp (tdiv (max m.positionPulses.toInt 0 * 100) m.maxPulses.toNat) 0 100 := by
  unfold posPercent
  split
  · rfl
  · obtain ⟨hlo, hhi⟩ := clamp_bounds (tdiv (max m.positionPulses.toInt 0 * 100) m.maxPulses.toNat) 0 100 (by decide)
    exact toU8_toNat _ hlo (by omega)

theorem zext16_toNat (b : U8) : (zext16 b).toNat = b.toNat := by
  have hb := b.isLt
  rw [zext16, BitVec.toNat_setWidth]
  omega

/-- Settles O33: the operation puts the value of the port on `res`. -/
theorem posPercentResult : Obligations.PosPercentResult := by
  intro s ha
  refine ⟨zext16 (posPercent s.mot), ?_, (zext16_toNat _).symm, ?_⟩
  · rw [zext16_toNat]
    exact posPercent_toNat s.mot
  · exact congrArg Host.Outcome.next (ha.hostCommand_eq _)

/-! ## The step -/

theorem decodeMove_of_decodeWord {w : OpWord} {i : Instr} (s : State) (h : decodeWord w = some i) :
    decodeMove w s = .instr i s := by
  cases w with
  | cmd24 w =>
    cases hd : decodeCmd24 w with
    | error e => simp [decodeWord, hd, Except.toOption] at h
    | ok j =>
      obtain rfl : j = i := by simpa [decodeWord, hd, Except.toOption] using h
      simp only [decodeMove, hd]
  | rfm12 w =>
    simp only [decodeWord] at h
    simp only [decodeMove, h]

/-- A 16-bit word that decodes to nothing is still sent (rule R138). -/
theorem decodeMove_reserved {w : U16} (s : State) (h : decodeWord (.rfm12 w) = none) :
    decodeMove (.rfm12 w) s = .instr (.spiTransfer16 w) s := by
  simp only [decodeWord] at h
  simp only [decodeMove, h]

theorem step_of_script {s : State} {d : Delivery} {rest : List Delivery} {i : Instr} (hs : s.env.script = d :: rest)
    (hi : decodeMove d.word (delivered d rest s) = .instr i (delivered d rest s)) :
    step s = exec i (delivered d rest s) := by
  have hfetch : fetch s = .instr i (delivered d rest s) := by
    simp only [fetch, hs]
    exact hi
  simp only [step, hfetch]

theorem step_of_empty {s : State} (hs : s.env.script = []) : step s = .next s := by
  have hfetch : fetch s = .idle := by simp only [fetch, hs]
  simp only [step, hfetch]

theorem delivered_cfg_of_none {d : Delivery} (rest : List Delivery) (s : State) (h : d.load = none) :
    (delivered d rest s).cfg = s.cfg := by
  simp only [delivered, latch, h]

theorem delivered_cfg_of_some {d : Delivery} {l : CfgLoad} (rest : List Delivery) (s : State) (h : d.load = some l) :
    (delivered d rest s).cfg = loadedCfg s.cfg l := by
  simp only [delivered, latch, h]

/-- Settles O5: the latched state is the one the statement writes out, and its configuration is the one that `Loads`
describes. -/
theorem stepRunsDecoded : Obligations.StepRunsDecoded := by
  refine ⟨fun s d rest hs => ⟨(delivered d rest s).cfg, delivered_cfg_of_none rest s, fun l hl => ?_, ?_⟩,
    fun s => step_of_empty⟩
  · rw [delivered_cfg_of_some rest s hl]
    exact loadedCfg_loads s.cfg l
  · obtain ⟨route, word, ports, load⟩ := d
    cases route
    all_goals
      refine ⟨fun i hi => step_of_script hs (decodeMove_of_decodeWord _ hi), fun w hw hi => step_of_script hs ?_⟩
      rw [hw] at hi ⊢
      exact decodeMove_reserved _ hi

/-! ## The sentinels of the control law -/

theorem satInc_toNat (x : U8) : (satInc x).toNat = min (x.toNat + 1) 255 := by
  have hx := x.isLt
  unfold satInc
  split
  next h => simp [h]
  next h =>
    have hne : x.toNat ≠ 255 := fun hx => h (BitVec.eq_of_toNat_eq hx)
    have hone : (1 : U8).toNat = 1 := rfl
    rw [BitVec.toNat_add, hone]
    omega

theorem isOff_iff (cfg : Cfg) (eff : U8) : isOff cfg eff = true ↔ eff.toNat + 1 = cfg.setpoint.tempMin.toNat := by
  rw [isOff, decide_eq_true_iff]
  omega

theorem isOn_iff (cfg : Cfg) (eff : U8) : isOn cfg eff = true ↔ eff.toNat = cfg.setpoint.tempMax.toNat + 1 := by
  rw [isOn, decide_eq_true_iff]
  omega

/-- An open gate at a sentinel (rules R220, R221). -/
theorem gatedEvaluation_sentinel {cfg : Cfg} {c : CtlState} {eff : U8} {changed : Bool} (t : I16)
    (hopen : changed = true ∨ cfg.pid.pidInterval.toNat ≤ c.pidCounter.toNat)
    (hsentinel : isOff cfg eff = true ∨ isOn cfg eff = true) :
    gatedEvaluation cfg c eff changed t = sentinelOutput cfg { c with pidCounter := 0 } eff := by
  have hgate : (changed || decide (c.pidCounter.toNat ≥ cfg.pid.pidInterval.toNat)) = true := by simpa using hopen
  have hvalue : (isOff cfg eff || isOn cfg eff) = true := by simpa using hsentinel
  rw [gatedEvaluation, if_pos hgate, if_pos hvalue]

/-- With a temperature and a gate that opens, a sentinel decides the output; a boost goes on only between setpoint
changes (rules R201 C and D, R221, R229). -/
theorem controlLaw_sentinel {cfg : Cfg} {p : Ports} {c : CtlState} (hvalid : p.tempValid = true)
    (hopen : effSetpoint cfg c ≠ c.lastAppliedTemperature ∨
      (c.boostSecs = 0 ∧ cfg.pid.pidInterval.toNat ≤ (satInc c.pidCounter).toNat))
    (hsentinel : isOff cfg (effSetpoint cfg c) = true ∨ isOn cfg (effSetpoint cfg c) = true) :
    controlLaw cfg p c = sentinelOutput cfg { c with pidCounter := 0 } (effSetpoint cfg c) := by
  have hboost :
      ¬ (decide (c.boostSecs.toNat > 0) && !decide (effSetpoint cfg c ≠ c.lastAppliedTemperature)) = true := by
    obtain hchanged | ⟨hzero, -⟩ := hopen
    · simp [hchanged]
    · simp [hzero]
  unfold controlLaw
  dsimp only
  rw [if_neg (by simp [hvalid]), if_neg hboost]
  exact gatedEvaluation_sentinel _ (hopen.imp decide_eq_true And.right) hsentinel

/-- Settles O19: the law at a sentinel, with the sentinel tests written out. -/
theorem updateSentinel : Obligations.UpdateSentinel := by
  intro s ha hvalid eff hopen hsentinel
  have hlaw : controlLaw s.cfg s.env.ports s.ctl = sentinelOutput s.cfg { s.ctl with pidCounter := 0 } eff := by
    refine controlLaw_sentinel hvalid ?_ ?_
    · rwa [satInc_toNat]
    · rwa [isOff_iff, isOn_iff]
  have hexec : exec .ctlUpdate s = .next (ctlUpdate s) :=
    congrArg Host.Outcome.next (internalOp_pass s _ ha.live ha.legal ha.context ha.booted)
  rw [hexec, ctlUpdate, hlaw]
  simp only [sentinelOutput, isOff_iff]

end Sys2Proof.Machine

namespace Sys2Proof.Machine

/-! ## An interrupt event that its gate lets through

A state that accepts events runs an event exactly if the event's own condition holds (rules R502, R507, R508, R526). -/

theorem ne_sysReset_of_interrupt {i : Instr} (hi : i.context = .interrupt) : i ≠ .sysReset := by
  rintro rfl
  cases hi

theorem AcceptsEvent.exec_not_taken {s : State} {i : Instr} (ha : AcceptsEvent s) (hi : i.context = .interrupt)
    (hc : eventCondition i s = false) : exec i s = .next s := by
  have hskip : notTaken i s = true := by simp [notTaken, hi, ha.context, hc]
  rw [exec_eq_gate i s (ne_sysReset_of_interrupt hi), if_pos hskip]

theorem AcceptsEvent.exec_done {s t : State} {i : Instr} (ha : AcceptsEvent s) (hi : i.context = .interrupt)
    (hc : eventCondition i s = true) (hd : pseudocode i (isrEntry s) = .done t) : exec i s = .next (isrReturn t) := by
  have htaken : notTaken i s = false := by simp [notTaken, hi, ha.context, ha.live, ha.enabled, hc]
  have hchecks : firstFailure (gateChecks i s) = none := by simp [gateChecks, hi, ha.context, ha.booted]
  have hown : ownEffect i s = .done (isrReturn t) := by simp [ownEffect, entered, leave, hi, hd]
  rw [exec_eq_gate i s (ne_sysReset_of_interrupt hi), htaken, passGate_pass s _ _ ha.live ha.legal hchecks, hown]
  rfl

/-- After a handler that kept the marks, the configuration and the issuer, events are accepted again (rule R508). -/
theorem AcceptsEvent.after_handler {s t : State} (ha : AcceptsEvent s) (hcfg : t.cfg = s.cfg)
    (hissuer : t.env.issuer = s.env.issuer) (hlive : t.live = s.live) (hbooted : t.sys.booted = s.sys.booted) :
    AcceptsEvent (isrReturn t) where
  live := hlive.trans ha.live
  legal := hcfg ▸ ha.legal
  context := hissuer.trans ha.context
  enabled := rfl
  booted := hbooted.trans ha.booted

theorem AcceptsEvent.fault_eq_none {s : State} (ha : AcceptsEvent s) : s.sys.fault = none := by
  have hlive := ha.live
  simp only [State.live, Bool.and_eq_true, Option.isNone_iff_eq_none] at hlive
  exact hlive.1.2

/-! ## What a nested interrupt reads and writes (rule R112) -/

/-- The interrupts that may nest inside the edge handler (rule R112). -/
inductive Nests : Instr → Prop where
  | tick : Nests .evTmrTick
  | second : Nests .evRtcSecond
  | watchdog : Nests .evMotorWdt
  | eye (l : BitVec 1) : Nests (.evEyeEdge l)

theorem Nests.context {i : Instr} (h : Nests i) : i.context = .interrupt := by cases h <;> rfl

/-- All that a nested handler writes: the motor, the clock, and bits that it sets in the task flags (rule R112). -/
def nestedChange (m : MotState) (now : Nat) (bits : U8) (s : State) : State :=
  { s with mot := m, sys := { s.sys with now := now, taskFlags := s.sys.taskFlags ||| bits } }

/-- The two states agree in all that a nested handler reads (rules R303, R305, R512). -/
structure SameMotorInputs (s u : State) : Prop where
  mot : u.mot = s.mot
  cfg : u.cfg = s.cfg
  now : u.sys.now = s.sys.now

theorem RadioFrame.motorInputs {s t : State} (h : RadioFrame s t) : SameMotorInputs s t := by
  refine ⟨h.mot, h.cfg, ?_⟩
  obtain ⟨b, hb | hb⟩ := h.sys
  all_goals rw [hb]
  rfl

namespace SameMotorInputs

variable {s u : State}

theorem edgeAccepted_eq (h : SameMotorInputs s u) (l : BitVec 1) : edgeAccepted u l = edgeAccepted s l := by
  simp only [edgeAccepted, h.mot, h.cfg, h.now]

theorem wdtReload_eq (h : SameMotorInputs s u) : wdtReload u = wdtReload s := by
  simp only [wdtReload, h.mot, h.cfg]

theorem after_edgeLatched (h : SameMotorInputs s u) (l : BitVec 1) :
    SameMotorInputs (edgeLatched s l) (edgeLatched u l) :=
  ⟨by simp only [edgeLatched, h.mot, h.now], h.cfg, h.now⟩

theorem after_pulseCounted (h : SameMotorInputs s u) : SameMotorInputs (pulseCounted s) (pulseCounted u) :=
  ⟨by simp only [pulseCounted, h.mot], h.cfg, h.now⟩

theorem after_coastPulse (h : SameMotorInputs s u) : SameMotorInputs (coastPulse s) (coastPulse u) :=
  ⟨by simp only [coastPulse, h.mot, h.now, h.wdtReload_eq], h.cfg, h.now⟩

theorem after_motTimerPulse (h : SameMotorInputs s u) (q : U16) :
    SameMotorInputs (motTimerPulse s q) (motTimerPulse u q) :=
  ⟨by simp only [motTimerPulse, h.mot, h.cfg], h.cfg, h.now⟩

theorem after_drivePulse (h : SameMotorInputs s u) : SameMotorInputs (drivePulse s) (drivePulse u) := by
  unfold drivePulse
  simp only [h.mot, h.now, h.wdtReload_eq]
  split
  · exact ⟨rfl, h.cfg, h.now⟩
  · have hcounted : SameMotorInputs
        { s with mot := { s.mot with lastPulseTime := s.sys.now, wdtDeadline := s.sys.now + wdtReload s } }
        { u with mot := { s.mot with lastPulseTime := s.sys.now, wdtDeadline := s.sys.now + wdtReload s } } :=
      ⟨rfl, h.cfg, h.now⟩
    exact hcounted.after_motTimerPulse _

theorem after_cutDrive (h : SameMotorInputs s u) (r : StopReason) : SameMotorInputs (cutDrive s r) (cutDrive u r) :=
  ⟨by simp only [cutDrive, h.mot], h.cfg, h.now⟩

theorem after_eyeEdge (h : SameMotorInputs s u) (l : BitVec 1) : SameMotorInputs (eyeEdge s l) (eyeEdge u l) := by
  have hlatched := h.after_edgeLatched l
  have hdriven := hlatched.after_pulseCounted.after_drivePulse
  unfold eyeEdge
  simp only [h.edgeAccepted_eq, hlatched.mot, hdriven.mot]
  split
  · split
    · exact hlatched
    · exact hlatched
    · exact hlatched.after_pulseCounted.after_coastPulse
    · split
      · exact hdriven.after_cutDrive _
      · exact hdriven
  · exact h

theorem eventCondition_eq {i : Instr} (h : SameMotorInputs s u) (hgie : u.sys.gie = s.sys.gie) (hi : Nests i) :
    eventCondition i u = eventCondition i s := by
  have hwdt : wdtEnabled u = wdtEnabled s := by simp only [wdtEnabled, hgie, h.mot, h.now]
  cases hi with
  | tick => exact congrArg not hwdt
  | watchdog => exact hwdt
  | second | eye => rfl

end SameMotorInputs

/-- With nothing posted, only the motor's state changes. -/
theorem nestedChange_no_bits (m : MotState) (s : State) : nestedChange m s.sys.now 0 s = { s with mot := m } := by
  simp [nestedChange]

theorem eyeEdge_nestedChange (s : State) (l : BitVec 1) :
    eyeEdge s l = nestedChange (eyeEdge s l).mot s.sys.now 0 s := by
  have hdrive := eyeEdge_drive s l
  have hmot : { (eyeEdge s l).mot with calibrationStep := s.mot.calibrationStep } = (eyeEdge s l).mot := by
    rw [← hdrive.calibrationStep]
  rw [nestedChange_no_bits, ← hmot]
  exact hdrive.rest

/-- A nested handler makes one and the same change in all states that agree in what it reads. -/
theorem Nests.pseudocode_nestedChange {i : Instr} (hi : Nests i) (s : State) :
    ∃ m now bits, ∀ u, SameMotorInputs s u → u.sys.sleeping = false →
      pseudocode i u = .done (nestedChange m now bits u) := by
  cases hi with
  | tick =>
    refine ⟨s.mot, s.sys.now + 1, 0, fun u hu _ => congrArg Effect.done ?_⟩
    simp [tmrTick, nestedChange, ← hu.mot, ← hu.now]
  | second =>
    refine ⟨s.mot, s.sys.now, taskMask .tick, fun u hu hawake => congrArg Effect.done ?_⟩
    simp only [State.post, nestedChange, ← hu.mot, ← hu.now, ← hawake]
  | watchdog =>
    refine ⟨(motorWdt s).mot, s.sys.now, taskMask .motorStop, fun u hu hawake => congrArg Effect.done ?_⟩
    simp only [motorWdt, State.post, nestedChange, ← hu.mot, ← hu.now, ← hawake]
  | eye l =>
    refine ⟨(eyeEdge s l).mot, s.sys.now, 0, fun u hu _ => congrArg Effect.done ?_⟩
    rw [← hu.now, ← (hu.after_eyeEdge l).mot]
    exact eyeEdge_nestedChange u l

/-! ## The edge handler, case by case (rule R456) -/

theorem txEdge_of_unwritten {s : State} (h : s.bufByte s.frm.framePos.toNat = none) :
    txEdge s = .fault .unwritten s.frm.framePos := by
  unfold txEdge
  rw [h]

theorem txEdge_of_byte {s : State} {b : U8} (h : s.bufByte s.frm.framePos.toNat = some b) :
    txEdge s =
      (let s1 := nextFramePos (spiSend s (txWriteWord b))
       .done
        (if s1.frm.frameSize.toNat ≤ s1.frm.framePos.toNat then (setMode s1 .txDone false).post .rfm
         else setRfmIrq s1 true)) := by
  unfold txEdge
  rw [h]
  exact (apply_ite Effect.done _ _ _).symm

theorem rxEdge_of_full {s : State} (h : s.cfg.radio.bufCap.toNat ≤ s.frm.framePos.toNat) :
    rxEdge s = .fault .bufRange s.frm.framePos := by
  have hwrite : bufWrite (spiSend s fifoReadWord) s.frm.framePos (fifoByte s.nextResponse) =
      .fault .bufRange s.frm.framePos := if_pos h
  unfold rxEdge
  rw [hwrite]

/-- The state after a stored byte, the mode changed if the buffer is now full (rule R456). -/
def rxAdvanced (s : State) : State :=
  { byteReceived s with
    frm :=
      { (byteReceived s).frm with
        mode := if s.cfg.radio.bufCap.toNat ≤ (byteReceived s).frm.framePos.toNat then .rxOwf else s.frm.mode } }

theorem rxEdge_of_room {s : State} (h : s.frm.framePos.toNat < s.cfg.radio.bufCap.toNat) :
    rxEdge s = .done (setRfmIrq ((rxAdvanced s).post .rfm) true) := by
  have hwrite : bufWrite (spiSend s fifoReadWord) s.frm.framePos (fifoByte s.nextResponse) =
      .done
        { spiSend s fifoReadWord with
          frm :=
            { s.frm with
              frameBuffer := s.frm.frameBuffer.write s.frm.framePos.toNat (fifoByte s.nextResponse) } } :=
    if_neg (Nat.not_le.mpr h)
  unfold rxEdge rxAdvanced byteReceived
  rw [hwrite]
  dsimp only [nextFramePos, setFramePos, spiSend_cfg]
  split <;> rfl

/-! ## The edge handler does not see a nested change (rule R112)

The task flags are the one field that both sides write, each by setting bits. -/

section

variable (m : MotState) (now : Nat) (bits : U8)

theorem State.post_nestedChange (s : State) (f : TaskFlag) :
    (nestedChange m now bits s).post f = nestedChange m now bits (s.post f) := by
  have hbits : s.sys.taskFlags ||| bits ||| taskMask f = s.sys.taskFlags ||| taskMask f ||| bits := by
    rw [BitVec.or_assoc, BitVec.or_comm bits, ← BitVec.or_assoc]
  simp only [State.post, nestedChange, hbits]

theorem txEdge_nestedChange (s : State) :
    txEdge (nestedChange m now bits s) = (txEdge s).map (nestedChange m now bits) := by
  cases hb : s.bufByte s.frm.framePos.toNat with
  | none =>
    rw [txEdge_of_unwritten hb, txEdge_of_unwritten (s := nestedChange m now bits s) hb]
    rfl
  | some b =>
    rw [txEdge_of_byte hb, txEdge_of_byte (s := nestedChange m now bits s) hb, Effect.map_done,
      apply_ite (nestedChange m now bits), ← State.post_nestedChange]
    rfl

theorem rxEdge_nestedChange (s : State) :
    rxEdge (nestedChange m now bits s) = (rxEdge s).map (nestedChange m now bits) := by
  by_cases hroom : s.frm.framePos.toNat < s.cfg.radio.bufCap.toNat
  · rw [rxEdge_of_room hroom, rxEdge_of_room (s := nestedChange m now bits s) hroom, Effect.map_done]
    exact congrArg (fun x => Effect.done (setRfmIrq x true)) (State.post_nestedChange m now bits (rxAdvanced s) .rfm)
  · have hfull := Nat.le_of_not_lt hroom
    rw [rxEdge_of_full hfull, rxEdge_of_full (s := nestedChange m now bits s) hfull]
    rfl

theorem rfmEdge_nestedChange (s : State) :
    rfmEdge (nestedChange m now bits s) = (rfmEdge s).map (nestedChange m now bits) := by
  have howf : owfEdge (setRfmIrq (nestedChange m now bits s) false) =
      nestedChange m now bits (owfEdge (setRfmIrq s false)) :=
    congrArg (setRfmIrq · true) (State.post_nestedChange m now bits (spiSend (setRfmIrq s false) fifoReadWord) .rfm)
  unfold rfmEdge
  rw [show (nestedChange m now bits s).frm = s.frm from rfl]
  split
  · exact txEdge_nestedChange m now bits (setRfmIrq s false)
  · exact rxEdge_nestedChange m now bits (setRfmIrq s false)
  · exact congrArg Effect.done howf
  all_goals rfl

end

/-! ## Both orders -/

/-- The edge handler completes where a byte is there to send and room is left to receive (rule R456). -/
theorem rfmEdge_completes {s : State} (htx : s.frm.mode = .tx → s.bufByte s.frm.framePos.toNat ≠ none)
    (hrx : s.frm.mode = .rx → s.frm.framePos.toNat < s.cfg.radio.bufCap.toNat) :
    ∃ t, rfmEdge s = .done t ∧ t.env.issuer = s.env.issuer := by
  unfold rfmEdge
  split
  next hmode =>
    obtain ⟨b, hb⟩ := Option.ne_none_iff_exists'.mp (htx hmode)
    refine ⟨_, txEdge_of_byte (s := setRfmIrq s false) hb, ?_⟩
    split <;> rfl
  next hmode => exact ⟨_, rxEdge_of_room (s := setRfmIrq s false) (hrx hmode), rfl⟩
  all_goals exact ⟨_, rfl, rfl⟩

/-- Inside a handler a second entry changes nothing. -/
theorem RadioFrame.isrEntry_eq {s t : State} (h : RadioFrame (isrEntry s) t) : isrEntry t = t := by
  have hsys : { t.sys with gie := false, inIsr := true, sleeping := false } = t.sys := by
    obtain ⟨b, hb | hb⟩ := h.sys
    all_goals
      rw [hb]
      rfl
  rw [isrEntry, hsys]

/-- After the edge handler, events are accepted as before it. -/
theorem AcceptsEvent.after_edge {s t : State} (ha : AcceptsEvent s) (h : RadioFrame (isrEntry s) t)
    (hissuer : t.env.issuer = s.env.issuer) : AcceptsEvent (isrReturn t) := by
  obtain ⟨b, hb | hb⟩ := h.sys
  all_goals
    have hlive : t.live = s.live := by
      rw [State.live, hb]
      rfl
    exact ha.after_handler h.cfg hissuer hlive (congrArg SysState.booted hb :)

/-- Settles O55. Let `x` be the state in which the edge handler ends. An event that is not enabled is skipped before and
after the edge alike; one that is taken makes one change, and both orders return from that change of `x`. -/
theorem nestedEventsCommute : Obligations.NestedEventsCommute := by
  intro s i ha hirq hready htx hrx hi
  have hnests : Nests i := by
    obtain rfl | rfl | rfl | ⟨l, rfl⟩ := hi
    · exact .tick
    · exact .second
    · exact .watchdog
    · exact .eye l
  obtain ⟨x, hx, hissuer⟩ := rfmEdge_completes (s := isrEntry s) htx hrx
  have hframe := rfmEdge_frame hx
  have hedge : eventCondition .evRfmEdge s = true := by simp [eventCondition, hirq, hready]
  have hfirst : exec .evRfmEdge s = .next (isrReturn x) := ha.exec_done rfl hedge hx
  have hafter : AcceptsEvent (isrReturn x) := ha.after_edge hframe hissuer
  have hsame : SameMotorInputs s (isrReturn x) := ⟨hframe.mot, hframe.cfg, hframe.motorInputs.now⟩
  have hcond : eventCondition i (isrReturn x) = eventCondition i s := hsame.eventCondition_eq ha.enabled.symm hnests
  cases hc : eventCondition i s with
  | false =>
    exact ⟨isrReturn x, s, isrReturn x, hfirst, hafter.exec_not_taken hnests.context (hcond.trans hc),
      ha.exec_not_taken hnests.context hc, hfirst, hafter.fault_eq_none⟩
  | true =>
    obtain ⟨m, now, bits, hchange⟩ := hnests.pseudocode_nestedChange (isrEntry s)
    have hnested : exec i s = .next (isrReturn (nestedChange m now bits (isrEntry s))) :=
      ha.exec_done hnests.context hc (hchange _ ⟨rfl, rfl, rfl⟩ rfl)
    have hsecond : exec i (isrReturn x) = .next (isrReturn (nestedChange m now bits x)) := by
      refine hafter.exec_done hnests.context (hcond.trans hc) ?_
      have hentry : isrEntry (isrReturn x) = x := hframe.isrEntry_eq
      rw [hentry]
      exact hchange x hframe.motorInputs (congrArg (·.sys.sleeping) hframe.isrEntry_eq).symm
    have hlast : exec .evRfmEdge (isrReturn (nestedChange m now bits (isrEntry s))) =
        .next (isrReturn (nestedChange m now bits x)) := by
      have haccepts : AcceptsEvent (isrReturn (nestedChange m now bits (isrEntry s))) :=
        ha.after_handler rfl rfl rfl rfl
      refine haccepts.exec_done rfl hedge ?_
      exact (rfmEdge_nestedChange m now bits (isrEntry s)).trans (congrArg (Effect.map _) hx)
    exact ⟨_, _, _, hfirst, hsecond, hnested, hlast, hafter.fault_eq_none⟩

end Sys2Proof.Machine

namespace Sys2Proof

/-! ## Decoding an encoded word -/

theorem formNone_wordNone (op : U8) (i : Instr) : formNone (wordNone op) i = .ok i := by
  simp [formNone]

theorem formByte_wordByte (op b : U8) (f : U8 → Instr) : formByte (wordByte op b) f = .ok (f b) := by
  simp [formByte]

theorem formU16_wordU16 (op : U8) (v : U16) (f : U16 → Instr) : formU16 (wordU16 op v) f = .ok (f v) := by
  simp [formU16]

theorem formIndexByte_wordIndexByte (op i b : U8) (f : U8 → U8 → Instr) :
    formIndexByte (wordIndexByte op i b) f = .ok (f i b) := by
  simp [formIndexByte]

theorem formBit_wordBit (op : U8) (b : BitVec 1) (f : BitVec 1 → Instr) : formBit (wordBit op b) f = .ok (f b) := by
  have hzero : (wordBit op b).extractLsb' 1 15 = 0 := by
    rw [wordBit, extract_append_lo _ _ (by decide), extract_append_hi _ _ (by decide)]
    rfl
  have hbit : (wordBit op b).extractLsb' 0 1 = b := by
    rw [wordBit, extract_append_lo _ _ (by decide), extract_append_lo _ _ (by decide), BitVec.extractLsb'_eq_self]
  rw [formBit, if_pos hzero, hbit]

/-- A CMD24 operation is read from its word: the op code selects the row, and the row's form reads its own word. -/
theorem decodeCmd24_of_encode {i : Instr} {w : Cmd24} (h : encode i = .cmd24 w) : decodeCmd24 w = .ok i := by
  cases i
  case sysReset | sysBoot | sysCli | sysSei | sysSleep | ctlTick | ctlUpdate | ctlWindowSample | ctlWindowHw
      | ctlBattery | ctlSchedFollow | motGetPosPercent | motTimerStop | rfmInit | frmTaskAck | frmStop | frmTxSlot
      | frmStartRx | frmRxReset | evTmrTick | evRtcSecond | evMotorWdt | evRfmEdge =>
    cases h
    simp only [decodeCmd24, cmdOp_wordNone]
    exact formNone_wordNone ..
  case ctlChangeMode | ctlTempChangeInc | ctlSetWanted | ctlErrAck | motGoto | motUpdateCal | frmStartTx | frmTxDone
      | frmBufRead =>
    cases h
    simp only [decodeCmd24, cmdOp_wordByte]
    exact formByte_wordByte ..
  case motTimerPulse | spiTransfer16 =>
    cases h
    simp only [decodeCmd24, cmdOp_wordU16]
    exact formU16_wordU16 ..
  case frmBufWrite =>
    cases h
    simp only [decodeCmd24, cmdOp_wordIndexByte]
    exact formIndexByte_wordIndexByte ..
  case evEyeEdge =>
    cases h
    simp only [decodeCmd24, cmdOp_wordBit]
    exact formBit_wordBit ..
  all_goals cases h

/-- The codes of the RFM12 commands whose fixed bits fill the high byte (rule R136). -/
def rfm12HighCodes : List U8 := [0x80, 0x82, 0xC6, 0xC2, 0xCA, 0xCE, 0xB0, 0xC4, 0xCC, 0xB8, 0xC8, 0xC0]

/-- No earlier pattern of the decoder matches a word of these codes. -/
theorem decodeRfm12_of_highCode {hi : U8} (lo : U8) (h : hi ∈ rfm12HighCodes) :
    decodeRfm12 (hi ++ lo) = decodeRfm12High (hi ++ lo) := by
  have hcodes : ∀ c ∈ rfm12HighCodes, c.extractLsb' 7 1 ≠ 0 ∧ c.extractLsb' 5 3 ≠ 0b111 ∧
      c.extractLsb' 4 4 ≠ 0b1010 ∧ c.extractLsb' 3 5 ≠ 0b10010 ∧ c.extractLsb' 1 7 ≠ 0b1001100 := by decide
  obtain ⟨hstatus, hwakeup, hfreq, hrx, htx⟩ := hcodes hi h
  simp (disch := decide) only [decodeRfm12, extract_append_hi, Nat.reduceSub, hstatus, hwakeup, hfreq, hrx, htx,
    if_false]

/-- An RFM12 command is read from its word: its fixed bits select the pattern, and each field is cut out of the
concatenation that the encoder wrote. -/
theorem decodeRfm12_of_encode {i : Instr} {w : U16} (h : encode i = .rfm12 w) : decodeRfm12 w = some i := by
  cases i
  case rfm12StatusRead | rfm12Frequency | rfm12RxControl | rfm12WakeupTimer | rfm12TxConfig =>
    cases h
    simp (disch := decide) only [decodeRfm12, extract_append_hi, extract_append_lo]
    simp
  case rfm12Config | rfm12PowerMgmt | rfm12DataRate | rfm12DataFilter | rfm12FifoReset | rfm12SyncPattern
      | rfm12FifoRead | rfm12Afc | rfm12Pll | rfm12TxWrite | rfm12LowDutyCycle | rfm12LbdClockDiv =>
    cases h
    refine (decodeRfm12_of_highCode _ (by decide)).trans ?_
    simp (disch := decide) only [decodeRfm12High, extract_append_hi, extract_append_lo]
    simp
  all_goals cases h

/-! ## The forms of the CMD24 operations (rules R132, R133) -/

/-- The operand forms of rule R132; `U8` and `I8` are one form to the decoder. -/
inductive Form where
  | none
  | byte
  | u16
  | indexByte
  | bit
deriving DecidableEq

/-- The form column of rule R133; `none` for a reserved op value (rule R134). -/
def formOf : Nat → Option Form
  | 0x01 | 0x02 | 0x03 | 0x04 | 0x05 | 0x10 | 0x11 | 0x12 | 0x13 | 0x14 | 0x15 | 0x22 | 0x24 | 0x31 | 0x37 | 0x38 | 0x3B
  | 0x3D | 0x3E | 0x40 | 0x41 | 0x43 | 0x44 => some .none
  | 0x16 | 0x17 | 0x18 | 0x19 | 0x20 | 0x21 | 0x3A | 0x3C | 0x3F => some .byte
  | 0x23 | 0x30 => some .u16
  | 0x39 => some .indexByte
  | 0x42 => some .bit
  | _ => none

/-- What a word of a form is read as: by the form's reader, for operations that the encoder writes in that form under
the op value of the word. -/
inductive Reads (w : Cmd24) : Option Form → Except DecodeError Instr → Prop where
  | none {i : Instr} (henc : encode i = .cmd24 (wordNone (cmdOp w))) : Reads w (some .none) (formNone w i)
  | byte {f : U8 → Instr} (henc : ∀ b, encode (f b) = .cmd24 (wordByte (cmdOp w) b)) :
    Reads w (some .byte) (formByte w f)
  | u16 {f : U16 → Instr} (henc : ∀ v, encode (f v) = .cmd24 (wordU16 (cmdOp w) v)) :
    Reads w (some .u16) (formU16 w f)
  | indexByte {f : U8 → U8 → Instr} (henc : ∀ k b, encode (f k b) = .cmd24 (wordIndexByte (cmdOp w) k b)) :
    Reads w (some .indexByte) (formIndexByte w f)
  | bit {f : BitVec 1 → Instr} (henc : ∀ b, encode (f b) = .cmd24 (wordBit (cmdOp w) b)) :
    Reads w (some .bit) (formBit w f)
  | undefined : Reads w Option.none (.error .undefOp)

/-- All that the CMD24 decoder can answer, by the form of the op value. -/
theorem decodeCmd24_reads (w : Cmd24) : Reads w (formOf (cmdOp w).toNat) (decodeCmd24 w) := by
  have hcode {c : U8} (h : (cmdOp w).toNat = c.toNat) : c = cmdOp w := (BitVec.eq_of_toNat_eq h).symm
  unfold decodeCmd24
  split
  case h_37 => simpa only [formOf] using Reads.undefined
  case h_12 hop | h_13 hop | h_14 hop | h_15 hop | h_16 hop | h_17 hop | h_26 hop | h_28 hop | h_31 hop =>
    rw [hop]
    exact .byte fun b => congrArg (fun c => OpWord.cmd24 (wordByte c b)) (hcode hop)
  case h_19 hop | h_21 hop =>
    rw [hop]
    exact .u16 fun v => congrArg (fun c => OpWord.cmd24 (wordU16 c v)) (hcode hop)
  case h_25 hop =>
    rw [hop]
    exact .indexByte fun k b => congrArg (fun c => OpWord.cmd24 (wordIndexByte c k b)) (hcode hop)
  case h_34 hop =>
    rw [hop]
    exact .bit fun b => congrArg (fun c => OpWord.cmd24 (wordBit c b)) (hcode hop)
  all_goals
    next hop =>
      rw [hop]
      exact .none (congrArg (fun c => OpWord.cmd24 (wordNone c)) (hcode hop))

/-! ### Reading a form and writing it again -/

theorem wordU16_cmdArg (w : Cmd24) : wordU16 (cmdOp w) (cmdArg w) = w :=
  BitVec.extractLsb'_append_extractLsb' (w := 8) (len := 16)

theorem cmdArgH_append_cmdArgL (w : Cmd24) : cmdArgH w ++ cmdArgL w = cmdArg w :=
  BitVec.extractLsb'_append_extractLsb'_eq_extractLsb' rfl

section
variable {w : Cmd24} {i j : Instr}

theorem formNone_ok (h : formNone w j = .ok i) : i = j ∧ wordNone (cmdOp w) = w := by
  unfold formNone at h
  split at h
  next hzero =>
    refine ⟨(Except.ok.inj h).symm, ?_⟩
    calc wordNone (cmdOp w) = wordU16 (cmdOp w) (cmdArg w) := by rw [hzero]; rfl
      _ = w := wordU16_cmdArg w
  next => cases h

theorem formByte_ok {f : U8 → Instr} (h : formByte w f = .ok i) :
    i = f (cmdArgL w) ∧ wordByte (cmdOp w) (cmdArgL w) = w := by
  unfold formByte at h
  split at h
  next hzero =>
    refine ⟨(Except.ok.inj h).symm, ?_⟩
    calc wordByte (cmdOp w) (cmdArgL w) = wordU16 (cmdOp w) (cmdArgH w ++ cmdArgL w) := by rw [hzero]; rfl
      _ = w := by rw [cmdArgH_append_cmdArgL, wordU16_cmdArg]
  next => cases h

theorem formU16_ok {f : U16 → Instr} (h : formU16 w f = .ok i) :
    i = f (cmdArg w) ∧ wordU16 (cmdOp w) (cmdArg w) = w :=
  ⟨(Except.ok.inj h).symm, wordU16_cmdArg w⟩

theorem formIndexByte_ok {f : U8 → U8 → Instr} (h : formIndexByte w f = .ok i) :
    i = f (cmdArgH w) (cmdArgL w) ∧ wordIndexByte (cmdOp w) (cmdArgH w) (cmdArgL w) = w := by
  refine ⟨(Except.ok.inj h).symm, ?_⟩
  calc wordIndexByte (cmdOp w) (cmdArgH w) (cmdArgL w) = wordU16 (cmdOp w) (cmdArgH w ++ cmdArgL w) := rfl
    _ = w := by rw [cmdArgH_append_cmdArgL, wordU16_cmdArg]

theorem formBit_ok {f : BitVec 1 → Instr} (h : formBit w f = .ok i) :
    i = f (w.extractLsb' 0 1) ∧ wordBit (cmdOp w) (w.extractLsb' 0 1) = w := by
  unfold formBit at h
  split at h
  next hzero =>
    have harg : w.extractLsb' 1 15 ++ w.extractLsb' 0 1 = cmdArg w :=
      BitVec.extractLsb'_append_extractLsb'_eq_extractLsb' rfl
    refine ⟨(Except.ok.inj h).symm, ?_⟩
    calc wordBit (cmdOp w) (w.extractLsb' 0 1)
        = wordU16 (cmdOp w) (w.extractLsb' 1 15 ++ w.extractLsb' 0 1) := by rw [hzero]; rfl
      _ = w := by rw [harg, wordU16_cmdArg]
  next => cases h

end

/-- Each form's word is put together again from what its reader takes apart. -/
theorem encode_of_decodeCmd24 {w : Cmd24} {i : Instr} (h : decodeCmd24 w = .ok i) : encode i = .cmd24 w := by
  have hreads := decodeCmd24_reads w
  generalize formOf (cmdOp w).toNat = form at hreads
  generalize decodeCmd24 w = r at h hreads
  cases hreads with
  | none henc =>
    obtain ⟨rfl, hw⟩ := formNone_ok h
    rw [henc, hw]
  | byte henc =>
    obtain ⟨rfl, hw⟩ := formByte_ok h
    rw [henc, hw]
  | u16 henc =>
    obtain ⟨rfl, hw⟩ := formU16_ok h
    rw [henc, hw]
  | indexByte henc =>
    obtain ⟨rfl, hw⟩ := formIndexByte_ok h
    rw [henc, hw]
  | bit henc =>
    obtain ⟨rfl, hw⟩ := formBit_ok h
    rw [henc, hw]
  | undefined => cases h

/-! ## Encoding a decoded RFM12 word -/

/-- A field of known value, put in front of the bits below it. -/
theorem field_append_low {n a k l : Nat} {w : BitVec n} {p : BitVec l} (h : w.extractLsb' a l = p) (hk : k = a) :
    p ++ w.extractLsb' 0 k = w.extractLsb' 0 (l + k) := by
  subst hk
  rw [← h]
  exact BitVec.extractLsb'_append_extractLsb'_eq_extractLsb' (Nat.zero_add k).symm

theorem top_field_append_low {l k : Nat} {w : BitVec (l + k)} {p : BitVec l} (h : w.extractLsb' k l = p) :
    p ++ w.extractLsb' 0 k = w := by
  rw [field_append_low h rfl, BitVec.extractLsb'_eq_self]

theorem rfm12_of_highCode {w : U16} {c : U8} (h : (w.extractLsb' 8 8).toNat = c.toNat) :
    OpWord.rfm12 (c ++ w.extractLsb' 0 8) = .rfm12 w :=
  congrArg OpWord.rfm12 (top_field_append_low (l := 8) (k := 8) (BitVec.eq_of_toNat_eq h))

/-- The low byte is put together again from its fields: all of them, or (for the filter, the FIFO read, the PLL and the
battery detector) all but the fixed bits. -/
theorem encode_of_decodeRfm12High {w : U16} {i : Instr} (h : decodeRfm12High w = some i) : encode i = .rfm12 w := by
  unfold decodeRfm12High at h
  split at h
  case h_1 hcode | h_2 hcode | h_3 hcode | h_5 hcode | h_6 hcode | h_8 hcode | h_10 hcode | h_11 hcode =>
    cases h
    simp (disch := decide) only [encode, BitVec.extractLsb'_append_extractLsb'_eq_extractLsb']
    exact rfm12_of_highCode hcode
  case h_4 hcode =>
    split at h
    next hfixed =>
      obtain ⟨h5, h3⟩ := hfixed
      cases h
      simp (disch := decide) only [encode, BitVec.extractLsb'_append_extractLsb'_eq_extractLsb',
        field_append_low (p := 1#1) h5, field_append_low (p := 1#1) h3]
      exact rfm12_of_highCode hcode
    next => cases h
  case h_7 hcode =>
    split at h
    next hlow =>
      cases h
      rw [encode, ← show w.extractLsb' 0 8 = 0#8 from hlow]
      exact rfm12_of_highCode hcode
    next => cases h
  case h_9 hcode | h_12 hcode =>
    split at h
    next hfixed =>
      cases h
      simp (disch := decide) only [encode, BitVec.extractLsb'_append_extractLsb'_eq_extractLsb',
        field_append_low (p := 0#1) hfixed]
      exact rfm12_of_highCode hcode
    next => cases h
  case h_13 => cases h

theorem encode_of_decodeRfm12 {w : U16} {i : Instr} (h : decodeRfm12 w = some i) : encode i = .rfm12 w := by
  unfold decodeRfm12 at h
  split at h
  next htop =>
    cases h
    exact congrArg OpWord.rfm12 (top_field_append_low (l := 1) (k := 15) htop)
  split at h
  next htop =>
    cases h
    simp (disch := decide) only [encode, BitVec.extractLsb'_append_extractLsb'_eq_extractLsb']
    exact congrArg OpWord.rfm12 (top_field_append_low (l := 3) (k := 13) htop)
  split at h
  next htop =>
    cases h
    exact congrArg OpWord.rfm12 (top_field_append_low (l := 4) (k := 12) htop)
  split at h
  next htop =>
    cases h
    simp (disch := decide) only [encode, BitVec.extractLsb'_append_extractLsb'_eq_extractLsb']
    exact congrArg OpWord.rfm12 (top_field_append_low (l := 5) (k := 11) htop)
  split at h
  next htop =>
    split at h
    next hfixed =>
      cases h
      simp (disch := decide) only [encode, BitVec.extractLsb'_append_extractLsb'_eq_extractLsb',
        field_append_low (p := 0#1) hfixed]
      exact congrArg OpWord.rfm12 (top_field_append_low (l := 7) (k := 9) htop)
    next => cases h
  exact encode_of_decodeRfm12High h

/-! ## The round trips -/

theorem decodeWord_cmd24_eq_some {w : Cmd24} {i : Instr} :
    decodeWord (.cmd24 w) = some i ↔ decodeCmd24 w = .ok i := by
  cases h : decodeCmd24 w with
  | ok j => simp [decodeWord, h, Except.toOption]
  | error e => simp [decodeWord, h, Except.toOption]

/-- Settles O2: each encoding's decoder reads its own words. -/
theorem decodeOfEncode : Obligations.DecodeOfEncode := by
  intro i
  cases h : encode i with
  | cmd24 w => exact decodeWord_cmd24_eq_some.mpr (decodeCmd24_of_encode h)
  | rfm12 w => exact decodeRfm12_of_encode h

/-- Settles O3: a word is rebuilt from the fields that its decoder reads. -/
theorem encodeOfDecode : Obligations.EncodeOfDecode := by
  intro w i h
  cases w with
  | cmd24 w => exact encode_of_decodeCmd24 (decodeWord_cmd24_eq_some.mp h)
  | rfm12 w => exact encode_of_decodeRfm12 h

theorem decodeTableWord_of_encode_cmd24 {i : Instr} {n : Nat} (h : encode i = .cmd24 (BitVec.ofNat 24 n)) :
    decodeTableWord 24 n = some i :=
  decodeWord_cmd24_eq_some.mpr (decodeCmd24_of_encode h)

theorem decodeTableWord_of_encode_rfm12 {i : Instr} {n : Nat} (h : encode i = .rfm12 (BitVec.ofNat 16 n)) :
    decodeTableWord 16 n = some i :=
  decodeRfm12_of_encode h

/-- Settles O1: the encoder writes each of the nine words, so the decoder reads it back. -/
theorem sampleWordsDecode : Obligations.SampleWordsDecode := by
  refine ⟨?_, ?_, ?_, ?_, ?_, ?_, ?_, ?_, ?_⟩
  case refine_7 | refine_8 | refine_9 => exact decodeTableWord_of_encode_rfm12 rfl
  all_goals exact decodeTableWord_of_encode_cmd24 rfl

end Sys2Proof

namespace Sys2Proof

/-! ## Words that the decoder rejects (rule R134) -/

theorem formOf_reserved {op : Nat}
    (h : op = 0x00 ∨ (0x06 ≤ op ∧ op ≤ 0x0F) ∨ (0x1A ≤ op ∧ op ≤ 0x1F) ∨ (0x25 ≤ op ∧ op ≤ 0x2F) ∨
      (0x32 ≤ op ∧ op ≤ 0x36) ∨ 0x45 ≤ op) : formOf op = none := by
  simp (disch := omega) only [formOf]

section
variable {w : Cmd24} {r : Except DecodeError Instr}

theorem Reads.eq_undefOp (h : Reads w Option.none r) : r = .error .undefOp := by
  cases h
  rfl

theorem Reads.eq_reservedBits_of_arg (h : Reads w (some .none) r) (harg : cmdArg w ≠ 0) :
    r = .error .reservedBits := by
  cases h
  exact if_neg harg

theorem Reads.eq_reservedBits_of_argH (h : Reads w (some .byte) r) (harg : cmdArgH w ≠ 0) :
    r = .error .reservedBits := by
  cases h
  exact if_neg harg

theorem Reads.eq_reservedBits_of_bits (h : Reads w (some .bit) r) (harg : w.extractLsb' 1 15 ≠ 0) :
    r = .error .reservedBits := by
  cases h
  exact if_neg harg

end

/-- An op value of a list is read in the form that the list's op values have. -/
theorem reads_of_mem {w : Cmd24} {l : List Nat} {form : Form} (hform : ∀ op ∈ l, formOf op = some form)
    (h : (cmdOp w).toNat ∈ l) : Reads w (some form) (decodeCmd24 w) :=
  hform _ h ▸ decodeCmd24_reads w

end Sys2Proof

namespace Sys2Proof.Machine

/-! ## Refusals at the gate and in the pseudocode -/

/-- The first check of the gate that fails names the reason (rule R504). -/
theorem exec_refused {i : Instr} {s : State} {r : RefuseReason} (hl : s.live = true) (hc : cfgProblem s.cfg = none)
    (hi : i.context ≠ .any) (htaken : notTaken i s = false) (hf : firstFailure (gateChecks i s) = some r) :
    exec i s = .next (markRefused s r) := by
  rw [exec_eq_gate i s (fun h => hi (h ▸ rfl)), htaken]
  simp [passGate, hl, hc, hf]

theorem delivered_of_no_load {d : Delivery} (rest : List Delivery) (s : State) (h : d.load = none) :
    delivered d rest s =
      { s with env := { s.env with script := rest, ports := d.ports, issuer := issuerOf d.route } } := by
  simp only [delivered, latch, h]

/-- A word with no operation is refused with the decoder's reason (rule R134). -/
theorem step_of_undecodable {s : State} {d : Delivery} {rest : List Delivery} {w : Cmd24} {e : DecodeError}
    (hs : s.env.script = d :: rest) (hw : d.word = .cmd24 w) (he : decodeCmd24 w = .error e) :
    step s = .next (rejectWord (delivered d rest s) e) := by
  have hmove : decodeMove d.word (delivered d rest s) = .bad e (delivered d rest s) := by
    rw [hw]
    simp only [decodeMove, he]
  have hfetch : fetch s = .bad e (delivered d rest s) := by
    simp only [fetch, hs]
    exact hmove
  simp only [step, hfetch]

/-- The reason that is reported for a word with no operation (rule R504). -/
def rejectReason : DecodeError → RefuseReason
  | .undefOp => .undefOp
  | .reservedBits => .reservedBits

theorem rejectWord_live {s : State} (e : DecodeError) (hl : s.live = true) (hc : cfgProblem s.cfg = none) :
    rejectWord s e = markRefused s (rejectReason e) := by
  cases e with
  | undefOp => simp [rejectWord, rejectReason, passGate, hl, hc]
  | reservedBits => simp [rejectWord, rejectReason, passGate, hl, hc]

/-- An operand value that its rule leaves undefined is refused by the pseudocode (rules R207, R210, R454). -/
theorem pseudocode_badArg {i : Instr} {s : State} (h : i.wellFormed = false)
    (hmode : (∃ k, i = .frmTxDone k) → s.frm.mode = .txDone) : pseudocode i s = .refuse .badArg := by
  cases i with
  | ctlChangeMode k =>
    have hk : 4 ≤ k.toNat := by simpa [Instr.wellFormed] using h
    exact changeModeEffect_badArg (by bv_omega) (by bv_omega) (by bv_omega) (by bv_omega)
  | ctlErrAck m =>
    have hmask : errAckable = ackMask := rfl
    have hm : m &&& ~~~errAckable ≠ 0 := by simpa [Instr.wellFormed, hmask] using h
    exact if_pos hm
  | frmTxDone k =>
    have hk : 1 < k.toNat := by simpa [Instr.wellFormed] using h
    change frmTxDone s k = _
    rw [frmTxDone, if_neg (not_not_intro (hmode ⟨k, rfl⟩)), if_pos hk]
  | _ => cases h

theorem AcceptsCommand.exec_badArg {i : Instr} {s : State} (ha : AcceptsCommand s) (h : i.wellFormed = false)
    (hmode : (∃ k, i = .frmTxDone k) → s.frm.mode = .txDone) : exec i s = .next (markRefused s .badArg) := by
  have hown : pseudocode i (wake s) = .refuse .badArg := pseudocode_badArg h hmode
  have hcommand : exec i s = .next (hostCommand s (pseudocode i)) := by
    cases i with
    | ctlChangeMode k | ctlErrAck m | frmTxDone k => rfl
    | _ => cases h
  rw [hcommand, ha.hostCommand_eq, hown, settle_refuse]

/-- Settles O4: the form of the op value tells how a word is rejected, the gate refuses an internal operation, and the
pseudocode an operand. -/
theorem illegalEncodingsRefused : Obligations.IllegalEncodingsRefused := by
  refine ⟨fun w hop => ?_, fun w hbits => ?_, fun s d rest w e hs hload hw he hl hc => ?_,
    fun i s hctx hissuer hl hc => ?_, fun i s h ha hmode => ha.exec_badArg h hmode⟩
  · exact (formOf_reserved hop ▸ decodeCmd24_reads w).eq_undefOp
  · obtain ⟨hop, harg⟩ | ⟨hop, harg⟩ | ⟨hop, harg⟩ := hbits
    · exact (reads_of_mem (by decide) hop).eq_reservedBits_of_arg harg
    · exact (reads_of_mem (by decide) hop).eq_reservedBits_of_argH harg
    · exact (reads_of_mem (l := [0x42]) (by decide) (List.mem_singleton.mpr hop)).eq_reservedBits_of_bits harg
  · have hlegal : cfgProblem (delivered d rest s).cfg = none := by rwa [delivered_cfg_of_none rest s hload]
    refine ⟨markRefused (delivered d rest s) (rejectReason e), ?_, ?_⟩
    · rw [step_of_undecodable hs hw he, rejectWord_live (s := delivered d rest s) e hl hlegal]
    · rw [delivered_of_no_load rest s hload]
      cases e with
      | undefOp => rfl
      | reservedBits => rfl
  · refine exec_refused hl hc (by simp [hctx]) (by simp [notTaken, hctx]) ?_
    simp [gateChecks, hctx, hissuer]

/-- Settles O8: the context and boot checks of the gate, in order, and an event that is not taken without `gie`. -/
theorem contextAndBootChecks : Obligations.ContextAndBootChecks := by
  refine ⟨fun i s hl hc h => ?_, fun i s hboot hl hc hne h => ?_, fun i s hgie hctx hissuer => ?_⟩
  · obtain ⟨hctx, hissuer⟩ | ⟨hctx, hisr⟩ := h
    · refine exec_refused hl hc (by simp [hctx]) (by simp [notTaken, hctx, hissuer]) ?_
      simp [gateChecks, hctx, hissuer]
    · refine exec_refused hl hc (by simp [hctx]) (by simp [notTaken, hctx]) ?_
      simp [gateChecks, hctx, notTaskContext, hisr]
  · obtain ⟨hctx, hissuer, hisr⟩ | ⟨hctx, hissuer⟩ := h
    · refine exec_refused hl hc (by simp [hctx]) (by simp [notTaken, hctx]) ?_
      simp [gateChecks, hctx, notTaskContext, hissuer, hisr, hne, hboot]
    · refine exec_refused hl hc (by simp [hctx]) (by simp [notTaken, hctx]) ?_
      simp [gateChecks, hctx, hissuer, hboot]
  · rw [exec_eq_gate i s (fun h => by simp [h, Instr.context] at hctx),
      if_pos (by simp [notTaken, hctx, hissuer, hgie])]

/-! ## Sending words (rule R400) -/

theorem sends_nil (s : State) : Sends [] s s := ⟨⟨[], rfl, by simp⟩, rfl, rfl⟩

/-- Words sent one after another: the last one decides the pins. -/
theorem Sends.cons {w : U16} {ws : List U16} {s t : State} (h : Sends ws (spiSend s w) t) : Sends (w :: ws) s t := by
  obtain ⟨⟨rs, hlength, hhist⟩, hpins, hrest⟩ := h
  refine ⟨⟨s.nextResponse :: rs, by simp [hlength], by simp [hhist]⟩, ?_, hrest⟩
  cases ws with
  | nil => exact hpins
  | cons v ws => exact hpins

theorem sends_spiSendAll (ws : List U16) (s : State) : Sends ws s (spiSendAll s ws) := by
  induction ws generalizing s with
  | nil => exact sends_nil s
  | cons w ws ih => exact (ih (spiSend s w)).cons

/-! ## The RFM12 command words -/

/-- A command word is its 16 bits, and it is issued as the transfer of them (rules R136, R144). -/
theorem command_word_of_isRfm12 {i : Instr} (h : i.isRfm12 = true) (s : State) :
    encode i = .rfm12 (rfm12WordOf i) ∧
      exec i s = .next (hostCommand s fun s => .done (spiTransfer s (rfm12WordOf i))) := by
  cases i
  case rfm12StatusRead | rfm12Config | rfm12PowerMgmt | rfm12Frequency | rfm12DataRate | rfm12RxControl
      | rfm12DataFilter | rfm12FifoReset | rfm12SyncPattern | rfm12FifoRead | rfm12Afc | rfm12TxConfig | rfm12Pll
      | rfm12TxWrite | rfm12WakeupTimer | rfm12LowDutyCycle | rfm12LbdClockDiv => exact ⟨rfl, rfl⟩
  all_goals cases h

/-- Settles O41: the command is one transfer in the woken state, and a transfer sends one word. -/
theorem commandWordsSent : Obligations.CommandWordsSent := by
  intro i s hi ha
  obtain ⟨hword, hexec⟩ := command_word_of_isRfm12 hi s
  refine ⟨rfm12WordOf i, spiSend s (rfm12WordOf i), s.nextResponse, hword, sends_spiSendAll [_] s, rfl, ?_⟩
  rw [hexec, ha.hostCommand_eq]
  rfl

end Sys2Proof.Machine

namespace Sys2Proof.Machine

/-! ## Accepted internal operations of the controller -/

section
variable {s : State}

theorem AcceptsInternal.internalOp_eq (h : AcceptsInternal s) (own : State → State) : internalOp s own = own s :=
  internalOp_pass s own h.live h.legal h.context h.booted

theorem AcceptsInternal.exec_ctlUpdate (h : AcceptsInternal s) : exec .ctlUpdate s = .next (ctlUpdate s) :=
  congrArg Host.Outcome.next (h.internalOp_eq ctlUpdate)

theorem AcceptsInternal.exec_ctlWindowHw (h : AcceptsInternal s) : exec .ctlWindowHw s = .next (ctlWindowHw s) :=
  congrArg Host.Outcome.next (h.internalOp_eq ctlWindowHw)

theorem AcceptsInternal.exec_ctlBattery (h : AcceptsInternal s) : exec .ctlBattery s = .next (ctlBattery s) :=
  congrArg Host.Outcome.next (h.internalOp_eq ctlBattery)

theorem AcceptsInternal.exec_ctlSchedFollow (h : AcceptsInternal s) :
    exec .ctlSchedFollow s = .next (ctlSchedFollow s) :=
  congrArg Host.Outcome.next (h.internalOp_eq ctlSchedFollow)

theorem AcceptsInternal.exec_frmTxSlot (h : AcceptsInternal s) : exec .frmTxSlot s = .next (frmTxSlot s) :=
  congrArg Host.Outcome.next (h.internalOp_eq frmTxSlot)

end

/-! ## The window detectors (rules R202, R203) -/

theorem reedDebounce_same {cfg : WindowCfg} {reed : Bool} {c : CtlState} (h : reed = c.reedTrusted) :
    reedDebounce cfg reed c = { c with reedCount := 0 } := if_pos h

theorem reedDebounce_trusts {cfg : WindowCfg} {reed : Bool} {c : CtlState} (h : reed ≠ c.reedTrusted)
    (hcount : cfg.hwDebounce.toNat ≤ (satInc c.reedCount).toNat) :
    reedDebounce cfg reed c = { c with reedTrusted := reed, reedCount := 0 } := by
  rw [reedDebounce, if_neg h, if_pos hcount]

theorem reedDebounce_counts {cfg : WindowCfg} {reed : Bool} {c : CtlState} (h : reed ≠ c.reedTrusted)
    (hcount : ¬ cfg.hwDebounce.toNat ≤ (satInc c.reedCount).toNat) :
    reedDebounce cfg reed c = { c with reedCount := satInc c.reedCount } := by
  rw [reedDebounce, if_neg h, if_neg hcount]

theorem windowHw_of_hw {cfg : WindowCfg} {p : Ports} {c : CtlState} (h : cfg.windowStrategy = .hw) :
    windowHw cfg p c = windowFollowsReed (reedDebounce cfg p.reed c) := if_neg (not_not_intro h)

theorem windowHw_of_thermal {cfg : WindowCfg} {p : Ports} {c : CtlState} (h : cfg.windowStrategy ≠ .hw) :
    windowHw cfg p c = c := if_pos h

/-- Settles O25: the three outcomes of the debounce. -/
theorem windowReedResult : Obligations.WindowReedResult := by
  intro s ha
  rw [ha.exec_ctlWindowHw, ctlWindowHw]
  split
  next hhw =>
    refine ⟨satInc s.ctl.reedCount, satInc_toNat _, ?_⟩
    rw [windowHw_of_hw hhw]
    by_cases hsame : s.env.ports.reed = s.ctl.reedTrusted
    · rw [reedDebounce_same hsame]
      simp [windowFollowsReed, hsame]
    · by_cases hcount : s.cfg.window.hwDebounce.toNat ≤ (satInc s.ctl.reedCount).toNat
      · rw [reedDebounce_trusts hsame hcount]
        simp [windowFollowsReed, hsame, hcount]
      · rw [reedDebounce_counts hsame hcount]
        simp [windowFollowsReed, hsame, hcount]
  next hthermal => rw [windowHw_of_thermal hthermal]

theorem exists_mem_cons (P : I16 → Prop) (x : I16) (l : List I16) :
    (∃ y ∈ x :: l, P y) ↔ P x ∨ ∃ y ∈ l, P y := by
  simp only [List.mem_cons, exists_eq_or_imp]

/-- The largest sample is above a bound when some sample is. -/
theorem exists_lt_maxSample_iff (k : Int) (l : List I16) :
    (∃ m, maxSample l = some m ∧ k < m) ↔ ∃ y ∈ l, k < y.toInt := by
  induction l with
  | nil => simp only [maxSample, reduceCtorEq, false_and, exists_false, List.not_mem_nil]
  | cons x l ih =>
    rw [exists_mem_cons, ← ih]
    cases h : maxSample l with
    | none =>
      simp only [maxSample, h, Option.some.injEq, exists_eq_left', reduceCtorEq, false_and, exists_false, or_false]
    | some m =>
      simp only [maxSample, h, Option.some.injEq, exists_eq_left']
      omega

/-- The smallest sample is below a bound when some sample is. -/
theorem exists_minSample_lt_iff (k : Int) (l : List I16) :
    (∃ m, minSample l = some m ∧ m < k) ↔ ∃ y ∈ l, y.toInt < k := by
  induction l with
  | nil => simp only [minSample, reduceCtorEq, false_and, exists_false, List.not_mem_nil]
  | cons x l ih =>
    rw [exists_mem_cons, ← ih]
    cases h : minSample l with
    | none =>
      simp only [minSample, h, Option.some.injEq, exists_eq_left', reduceCtorEq, false_and, exists_false, or_false]
    | some m =>
      simp only [minSample, h, Option.some.injEq, exists_eq_left']
      omega

theorem dropSeen_iff (cfg : WindowCfg) (h : List I16) (x : I16) :
    dropSeen cfg h x = true ↔
      ∃ y ∈ trailing cfg.openDetectionTime.toNat h, y.toInt - x.toInt > cfg.openDetectionDiff.toNat := by
  have hdiff : ∀ m : Int, m - x.toInt > cfg.openDetectionDiff.toNat ↔ x.toInt + cfg.openDetectionDiff.toNat < m :=
    fun m => by omega
  simp only [hdiff, ← exists_lt_maxSample_iff, dropSeen]
  cases maxSample (trailing cfg.openDetectionTime.toNat h) with
  | none => simp only [Bool.false_eq_true, reduceCtorEq, false_and, exists_false]
  | some m => simp only [decide_eq_true_eq, Option.some.injEq, exists_eq_left']

theorem recoverySeen_iff (cfg : WindowCfg) (h : List I16) (x : I16) :
    recoverySeen cfg h x = true ↔
      ∃ y ∈ trailing cfg.closeDetectionTime.toNat h, x.toInt - y.toInt > cfg.closeDetectionDiff.toNat := by
  have hdiff : ∀ m : Int, x.toInt - m > cfg.closeDetectionDiff.toNat ↔ m < x.toInt - cfg.closeDetectionDiff.toNat :=
    fun m => by omega
  simp only [hdiff, ← exists_minSample_lt_iff, recoverySeen]
  cases minSample (trailing cfg.closeDetectionTime.toNat h) with
  | none => simp only [Bool.false_eq_true, reduceCtorEq, false_and, exists_false]
  | some m => simp only [decide_eq_true_eq, Option.some.injEq, exists_eq_left']

/-- A closed window opens on a drop, and for at least one sample (rule R202). -/
theorem windowAfterSample_closed {cfg : WindowCfg} {c : CtlState} (x : I16) (h : c.windowOpenState = 0) :
    (dropSeen cfg c.winHist x = true → (windowAfterSample cfg c x).toNat = max cfg.openTimeout.toNat 1) ∧
      (dropSeen cfg c.winHist x = false → windowAfterSample cfg c x = 0) := by
  have hclosed : c.windowOpenState.toNat = 0 := by rw [h]; rfl
  rw [windowAfterSample, if_pos hclosed]
  refine ⟨fun hdrop => ?_, fun hstay => ?_⟩
  · rw [if_pos hdrop]
    split
    next hzero =>
      rw [hzero]
      rfl
    next hpos => omega
  · rw [if_neg (by simp [hstay]), h]

/-- An open window closes on a recovery, else it counts down (rule R202). -/
theorem windowAfterSample_open {cfg : WindowCfg} {c : CtlState} (x : I16) (h : c.windowOpenState ≠ 0) :
    (recoverySeen cfg c.winHist x = true → windowAfterSample cfg c x = 0) ∧
      (recoverySeen cfg c.winHist x = false →
        (windowAfterSample cfg c x).toNat = c.windowOpenState.toNat - 1) := by
  have hopen : c.windowOpenState.toNat ≠ 0 := fun hzero => h (BitVec.eq_of_toNat_eq hzero)
  rw [windowAfterSample, if_neg hopen]
  refine ⟨fun hrise => if_pos hrise, fun hstay => ?_⟩
  rw [if_neg (by simp [hstay])]
  bv_omega

/-- Settles O24: the two comparisons with the trailing samples decide what a closed and what an open window does. -/
theorem windowSampleResult : Obligations.WindowSampleResult := by
  intro s ha
  have hexec : exec .ctlWindowSample s =
      .next { wake s with ctl := windowSample s.cfg.window s.env.ports s.ctl } :=
    congrArg Host.Outcome.next (ha.hostCommand_eq _)
  rw [hexec, windowSample]
  split
  next hthermal =>
    obtain ⟨hstrategy, hvalid⟩ := hthermal
    dsimp only
    refine ⟨windowAfterSample s.cfg.window s.ctl s.env.ports.tempAvg, ?_, fun hclosed => ?_, fun hopen => ?_⟩
    · rw [if_neg (by simp [hstrategy, hvalid])]
      rfl
    · obtain ⟨hdrop, hstay⟩ := windowAfterSample_closed (cfg := s.cfg.window) s.env.ports.tempAvg hclosed
      refine ⟨fun h => hdrop ((dropSeen_iff ..).mpr h), fun h => hstay ?_⟩
      refine Bool.eq_false_iff.mpr fun hdropped => ?_
      obtain ⟨y, hy, hgt⟩ := (dropSeen_iff ..).mp hdropped
      exact Int.not_lt.mpr (h y hy) hgt
    · obtain ⟨hrise, hstay⟩ := windowAfterSample_open (cfg := s.cfg.window) s.env.ports.tempAvg hopen
      refine ⟨fun h => hrise ((recoverySeen_iff ..).mpr h), fun h => hstay ?_⟩
      refine Bool.eq_false_iff.mpr fun hrisen => ?_
      obtain ⟨y, hy, hgt⟩ := (recoverySeen_iff ..).mp hrisen
      exact Int.not_lt.mpr (h y hy) hgt
  next hskip =>
    have hskipped : s.cfg.window.windowStrategy ≠ .thermal ∨ s.env.ports.tempValid = false := by
      by_cases hstrategy : s.cfg.window.windowStrategy = .thermal
      · exact .inr (Bool.eq_false_iff.mpr fun hvalid => hskip ⟨hstrategy, hvalid⟩)
      · exact .inl hstrategy
    rw [if_pos hskipped]
    rfl

/-! ## Battery and schedule (rules R204, R205) -/

/-- The chain of thresholds writes the two battery flags only (rule R204). -/
theorem batteryClass_eq (cfg : BatteryCfg) (p : Ports) (c : CtlState) :
    batteryClass cfg p c =
      { c with
        errorFlags :=
          if p.batValid = false then c.errorFlags
          else if p.batMv.toInt < cfg.batLowThld.toNat then c.errorFlags ||| 0xC0
          else if p.batMv.toInt < cfg.batWarningThld.toNat then
            if cfg.battErrReversible then (c.errorFlags ||| 0x40) &&& ~~~0x80 else c.errorFlags ||| 0x40
          else if cfg.battErrReversible then c.errorFlags &&& ~~~0xC0 else c.errorFlags } := by
  unfold batteryClass
  cases p.batValid with
  | false => rfl
  | true =>
    simp only [Bool.not_true, Bool.true_eq_false, Bool.false_eq_true, if_false]
    split
    · rfl
    · split
      · split <;> rfl
      · split <;> rfl

/-- Settles O26: the flags that `batteryClass` leaves, with their masks written out. -/
theorem batteryResult : Obligations.BatteryResult := by
  intro s ha
  dsimp only
  rw [ha.exec_ctlBattery, ctlBattery, batteryClass_eq]

/-- Settles O27: the guard of the schedule, and the preset under legal bounds. -/
theorem scheduleFollowResult : Obligations.ScheduleFollowResult := by
  intro s ha
  dsimp only
  rw [ha.exec_ctlSchedFollow, ctlSchedFollow, schedFollow]
  split
  next hnew =>
    obtain ⟨hauto, hvalid, hne⟩ := hnew
    refine ⟨clampT s.cfg.setpoint (preset s.cfg.setpoint s.env.ports.schedType).toNat, ?_, ?_⟩
    · rw [clampT_toNat ha.legal, preset_getD _ hvalid]
    · rw [if_pos (by simp [hauto, validType, hvalid, hne])]
      rfl
  next hold =>
    rw [if_neg (by simpa [validType, and_assoc] using hold)]

/-! ## Commands (rules R208 to R210) -/

theorem sext16_toInt (d : I8) : (sext16 d).toInt = d.toInt := by
  rw [sext16, BitVec.toInt_signExtend_of_le (by decide)]

/-- Settles O29: both commands store a clamped setpoint through `setWanted`. -/
theorem setpointResult : Obligations.SetpointResult := by
  intro s d v ha
  refine ⟨⟨clampT s.cfg.setpoint (s.ctl.wantedTemperature.toNat + d.toInt), clampT_toNat ha.legal _, ?_⟩,
    ⟨clampT s.cfg.setpoint v.toNat, clampT_toNat ha.legal _, ?_⟩⟩
  · rw [← sext16_toInt]
    exact congrArg Host.Outcome.next (ha.hostCommand_eq _)
  · rw [← zext16_toNat]
    exact congrArg Host.Outcome.next (ha.hostCommand_eq _)

/-- Settles O30: the mask test, then the bits are cleared. -/
theorem errorAckResult : Obligations.ErrorAckResult := by
  intro s m ha
  have hexec : exec (.ctlErrAck m) s = .next (settle s (errAckEffect (wake s) m)) :=
    congrArg Host.Outcome.next (ha.hostCommand_eq (errAckEffect · m))
  have hmask : errAckable = 0xC8 := rfl
  split
  next hwithin =>
    rw [hexec, errAckEffect, hmask, if_neg (not_not_intro hwithin)]
    rfl
  next houtside =>
    rw [hexec, errAckEffect, hmask, if_pos houtside]
    rfl

end Sys2Proof.Machine

namespace Sys2Proof.Machine

/-! ## The branches of the control law (rules R201 A to D, R220, R229) -/

/-- Without a temperature a tick is counted and nothing else (rule R201 B). -/
theorem controlLaw_no_temperature {cfg : Cfg} {p : Ports} (c : CtlState) (h : p.tempValid = false) :
    controlLaw cfg p c = { c with pidCounter := satInc c.pidCounter } := by
  unfold controlLaw
  exact if_pos (by simp [h])

/-- A tick with a temperature that does not continue a boost is decided by the gate. -/
theorem controlLaw_no_boost {cfg : Cfg} {p : Ports} {c : CtlState} (hvalid : p.tempValid = true)
    (h : effSetpoint cfg c ≠ c.lastAppliedTemperature ∨ c.boostSecs = 0) :
    controlLaw cfg p c =
      gatedEvaluation cfg { c with pidCounter := satInc c.pidCounter } (effSetpoint cfg c)
        (decide (effSetpoint cfg c ≠ c.lastAppliedTemperature)) p.tempAvg := by
  have hboost :
      ¬ (decide (c.boostSecs.toNat > 0) && !decide (effSetpoint cfg c ≠ c.lastAppliedTemperature)) = true := by
    obtain hchanged | hzero := h
    · simp [hchanged]
    · simp [hzero]
  unfold controlLaw
  dsimp only
  rw [if_neg (by simp [hvalid]), if_neg hboost]

section
variable {cfg : Cfg} {p : Ports} {c : CtlState} (hvalid : p.tempValid = true)
  (hsame : effSetpoint cfg c = c.lastAppliedTemperature) (hboost : 0 < c.boostSecs.toNat)
include hvalid hsame hboost

/-- A boost at an unchanged setpoint goes on while the error is large (rule R229). -/
theorem controlLaw_boost_continues (h : boostContinues cfg (effSetpoint cfg c) p.tempAvg = true) :
    controlLaw cfg p c =
      { c with
        pidCounter := satInc c.pidCounter
        boostSecs := c.boostSecs - 1
        valveHistory0 := boostOutput cfg c } := by
  unfold controlLaw
  dsimp only
  rw [if_neg (by simp [hvalid]), if_pos (by simp [hsame, hboost]), if_pos h]
  rfl

/-- A boost that ends leaves the tick to the state without it (rule R229). -/
theorem controlLaw_boost_ends (h : boostContinues cfg (effSetpoint cfg c) p.tempAvg = false) :
    controlLaw cfg p c = controlLaw cfg p { c with boostSecs := 0 } := by
  rw [controlLaw_no_boost (c := { c with boostSecs := 0 }) hvalid (.inr rfl)]
  unfold controlLaw
  dsimp only
  rw [if_neg (by simp [hvalid]), if_pos (by simp [hsame, hboost]), if_neg (by simp [h])]
  rfl

end

theorem gatedEvaluation_closed {cfg : Cfg} {c : CtlState} {eff : U8} (t : I16)
    (h : c.pidCounter.toNat < cfg.pid.pidInterval.toNat) : gatedEvaluation cfg c eff false t = c :=
  if_neg (by simpa using h)

/-- An open gate away from the sentinels (rules R220, R222). -/
theorem gatedEvaluation_evaluates {cfg : Cfg} {c : CtlState} {eff : U8} {changed : Bool} (t : I16)
    (hopen : changed = true ∨ cfg.pid.pidInterval.toNat ≤ c.pidCounter.toNat) (hoff : isOff cfg eff = false)
    (hon : isOn cfg eff = false) :
    gatedEvaluation cfg c eff changed t = evaluate cfg { c with pidCounter := 0 } eff changed t := by
  have hgate : (changed || decide (c.pidCounter.toNat ≥ cfg.pid.pidInterval.toNat)) = true := by simpa using hopen
  rw [gatedEvaluation, if_pos hgate, if_neg (by simp [hoff, hon])]

/-- Settles O18: without a temperature, or behind a closed gate, only the counter is written. -/
theorem updateGated : Obligations.UpdateGated := by
  intro s ha hgated
  refine ⟨satInc s.ctl.pidCounter, satInc_toNat _, ?_⟩
  have hlaw : controlLaw s.cfg s.env.ports s.ctl = { s.ctl with pidCounter := satInc s.ctl.pidCounter } := by
    cases hvalid : s.env.ports.tempValid with
    | false => exact controlLaw_no_temperature s.ctl hvalid
    | true =>
      obtain hinvalid | ⟨hsame, hboost, hcount⟩ := hgated
      · rw [hvalid] at hinvalid
        cases hinvalid
      · have hunchanged : decide (effSetpoint s.cfg s.ctl ≠ s.ctl.lastAppliedTemperature) = false :=
          decide_eq_false (not_not_intro hsame)
        rw [controlLaw_no_boost hvalid (.inr hboost), hunchanged]
        exact gatedEvaluation_closed _ (by rwa [satInc_toNat])
  rw [ha.exec_ctlUpdate, ctlUpdate, hlaw]

/-! ### The evaluation -/

section
variable (cfg : Cfg) (c : CtlState) (e : Int)

theorem integratorStep_snapSum : (integratorStep cfg c e).snapSum = c.snapSum := by
  unfold integratorStep
  split <;> rfl

theorem integratorStep_snapAbs : (integratorStep cfg c e).snapAbs = c.snapAbs := by
  unfold integratorStep
  split <;> rfl

theorem integratorStep_boostSecs : (integratorStep cfg c e).boostSecs = c.boostSecs := by
  unfold integratorStep
  split <;> rfl

theorem integratorStep_boostDir : (integratorStep cfg c e).boostDir = c.boostDir := by
  unfold integratorStep
  split <;> rfl

theorem integratorStep_pidCounter : (integratorStep cfg c e).pidCounter = c.pidCounter := by
  unfold integratorStep
  split <;> rfl

end

theorem pidError_natAbs (eff : U8) (t : I16) : (pidError eff t).natAbs ≤ 1200 := by
  obtain ⟨hlo, hhi⟩ := pidError_bounds eff t
  omega

/-- An evaluation at an unchanged setpoint starts no boost. -/
theorem evaluate_boostSecs_of_unchanged (cfg : Cfg) (c : CtlState) (eff : U8) (t : I16) :
    (evaluate cfg c eff false t).boostSecs = c.boostSecs := integratorStep_boostSecs ..

theorem gatedEvaluation_boostSecs {cfg : Cfg} {c : CtlState} (eff : U8) (t : I16) (h : c.boostSecs = 0) :
    (gatedEvaluation cfg c eff false t).boostSecs = 0 := by
  unfold gatedEvaluation
  split
  · split
    · rfl
    · exact (evaluate_boostSecs_of_unchanged ..).trans h
  · exact h

theorem controlLaw_boostSecs {cfg : Cfg} {p : Ports} {c : CtlState} (hvalid : p.tempValid = true)
    (hsame : effSetpoint cfg c = c.lastAppliedTemperature) (h : c.boostSecs = 0) :
    (controlLaw cfg p c).boostSecs = 0 := by
  rw [controlLaw_no_boost hvalid (.inr h), decide_eq_false (not_not_intro hsame)]
  exact gatedEvaluation_boostSecs _ _ h

/-- Settles O23: the two branches of the boost's test, with the test written out. -/
theorem updateBoost : Obligations.UpdateBoost := by
  intro s ha hvalid c cfg eff e hsame hboost
  split
  next hsmall =>
    have hends := controlLaw_boost_ends hvalid hsame hboost (decide_eq_false (not_not_intro hsmall))
    have hunboosted : AcceptsInternal { s with ctl := { c with boostSecs := 0 } } :=
      ⟨ha.live, ha.legal, ha.context, ha.booted⟩
    refine ⟨?_, ctlUpdate s, ha.exec_ctlUpdate, ?_⟩
    · rw [ha.exec_ctlUpdate, hunboosted.exec_ctlUpdate, ctlUpdate, hends]
      rfl
    · rw [ctlUpdate, hends]
      exact controlLaw_boostSecs hvalid hsame rfl
  next hlarge =>
    have hgoes := controlLaw_boost_continues hvalid hsame hboost (decide_eq_true hlarge)
    refine ⟨satInc c.pidCounter, satInc_toNat _, ?_⟩
    rw [ha.exec_ctlUpdate, ctlUpdate, hgoes]
    rfl

/-! ### The integrator (rules R224 to R226) -/

/-- The error's sign just flipped, as a proposition over integers (rule R225). -/
abbrev SignFlips (c : CtlState) (e : Int) : Prop := e ≠ 0 ∧ sgn e ≠ c.lastErrorSign

/-- The sum takes the error in: the valve has headroom in its direction, and the sign flipped or credit is left (rule
R225). -/
abbrev Accumulates (cfg : Cfg) (c : CtlState) (e credit : Int) : Prop :=
  ((e > 0 ∧ c.valveHistory0.toNat < cfg.pid.valveMax.toNat) ∨
    (e < 0 ∧ cfg.pid.valveMin.toNat < c.valveHistory0.toNat)) ∧ (SignFlips c e ∨ 0 < credit)

section
variable {cfg : Cfg} {c : CtlState} {e : Int}

theorem sgn_eq_zero_iff : sgn e = .zero ↔ e = 0 := by
  unfold sgn
  split
  next hneg =>
    have hne : e ≠ 0 := by omega
    simp only [reduceCtorEq, hne]
  next => split <;> simp [*]

theorem signFlipped_iff : signFlipped c e = true ↔ SignFlips c e := by
  simp [signFlipped, sgn_eq_zero_iff]

theorem headroom_iff {old : U8} :
    headroom cfg old e = true ↔
      (e > 0 ∧ old.toNat < cfg.pid.valveMax.toNat) ∨ (e < 0 ∧ cfg.pid.valveMin.toNat < old.toNat) := by
  simp [headroom]

theorem creditStep_sum : (creditStep cfg c e).sum = c.sumError.toInt := by
  unfold creditStep
  split
  · rfl
  · split <;> rfl

theorem creditStep_credit :
    (creditStep cfg c e).credit =
      if SignFlips c e then (cfg.pid.iMaxCredit.toNat : Int)
      else if c.creditExpiration.toNat = 1 then 0 else c.integratorCredit.toInt := by
  simp only [creditStep, signFlipped_iff]
  split
  · rfl
  · split
    · rfl
    next hexpired => exact (if_neg (by omega)).symm

theorem creditStep_expiration :
    (creditStep cfg c e).expiration =
      ((if SignFlips c e then cfg.pid.iCreditExpiration.toNat else c.creditExpiration.toNat - 1 : Nat) : Int) := by
  simp only [creditStep, signFlipped_iff]
  split
  · rfl
  · split <;> dsimp only <;> omega

variable (g : Integ)

theorem accumulate_sum :
    (accumulate cfg c e g).sum = if Accumulates cfg c e g.credit then g.sum + 8 * e else g.sum := by
  simp only [accumulate, Bool.and_eq_true, Bool.or_eq_true, headroom_iff, signFlipped_iff, decide_eq_true_eq]
  split <;> rfl

theorem accumulate_credit :
    (accumulate cfg c e g).credit =
      if Accumulates cfg c e g.credit ∧ ¬ SignFlips c e ∧ c.lastAbsError.toNat ≤ e.natAbs then
        max 0 (g.credit - max 1 (asr e.natAbs cfg.pid.creditShift.toNat))
      else g.credit := by
  simp only [accumulate, Bool.and_eq_true, Bool.or_eq_true, Bool.not_eq_true', ← Bool.not_eq_true, headroom_iff,
    signFlipped_iff, decide_eq_true_eq, ge_iff_le]
  by_cases hgrows : Accumulates cfg c e g.credit
  · rw [if_pos hgrows]
    exact ite_congr (propext (and_iff_right hgrows).symm) (fun _ => rfl) (fun _ => rfl)
  · rw [if_neg hgrows, if_neg fun h => hgrows h.1]

theorem accumulate_expiration : (accumulate cfg c e g).expiration = g.expiration := by
  unfold accumulate
  split <;> rfl

theorem rollback_sum :
    (rollback cfg c e g).sum =
      if 0 < c.integratorCredit.toInt ∧ g.credit = 0 ∧ 3 * c.snapAbs.toNat < 4 * e.natAbs ∧
          cfg.pid.rollbackTol.toNat < e.natAbs then c.snapSum.toInt
      else g.sum := by
  unfold rollback
  split <;> rfl

theorem rollback_credit : (rollback cfg c e g).credit = g.credit := by
  unfold rollback
  split <;> rfl

theorem rollback_expiration : (rollback cfg c e g).expiration = g.expiration := by
  unfold rollback
  split <;> rfl

/-- The credit fits an i8 field, whatever its sign (rule R36). -/
theorem creditStep_stored (hmax : cfg.pid.iMaxCredit.toNat ≤ 127) :
    -128 ≤ (creditStep cfg c e).credit ∧ (creditStep cfg c e).credit ≤ 127 := by
  have hlo := BitVec.le_toInt c.integratorCredit
  have hhi := BitVec.toInt_lt (x := c.integratorCredit)
  rw [creditStep_credit]
  split
  · omega
  · split <;> omega

theorem accumulate_stored (h : -128 ≤ g.credit ∧ g.credit ≤ 127) :
    -128 ≤ (accumulate cfg c e g).credit ∧ (accumulate cfg c e g).credit ≤ 127 := by
  rw [accumulate_credit]
  split <;> omega

/-- The clamp of rule R226 is stored as it is. -/
theorem clampedSum_toInt (sum : Int) : (clampedSum cfg sum).toInt = clamp sum (-sumBound cfg) (sumBound cfg) := by
  obtain ⟨hnonneg, hle⟩ := sumBound_bounds cfg
  obtain ⟨hlo, hhi⟩ := clamp_bounds sum (-sumBound cfg) (sumBound cfg) (by omega)
  exact toI32_toInt _ (by omega) (by omega)

theorem integratorStep_runs (hblock : c.blockCount = 0) (hmax : cfg.pid.iMaxCredit.toNat ≤ 127)
    (he : e.natAbs ≤ 1200) : IntegratorRuns cfg e c (integratorStep cfg c e) := by
  have hopen : ¬ c.blockCount.toNat > 0 := by simp [hblock]
  have hexpire := cfg.pid.iCreditExpiration.isLt
  have hcount := c.creditExpiration.isLt
  obtain ⟨hlo, hhi⟩ := accumulate_stored (cfg := cfg) (c := c) (e := e) _ (creditStep_stored hmax)
  rw [integratorStep, if_neg hopen]
  refine ⟨?sum, ?credit, ?expiration, toU16_natAbs he, ?sign, hblock⟩
  case sum =>
    refine (clampedSum_toInt _).trans ?_
    rw [rollback_sum, accumulate_credit, accumulate_sum, creditStep_credit, creditStep_sum]
    rfl
  case credit =>
    refine (toI8_toInt _ ?_ ?_).trans ?_
    · rwa [rollback_credit]
    · rwa [rollback_credit]
    · rw [rollback_credit, accumulate_credit, creditStep_credit]
  case expiration =>
    have hfits :
        (if SignFlips c e then cfg.pid.iCreditExpiration.toNat else c.creditExpiration.toNat - 1) ≤ 255 := by
      split <;> omega
    refine Int.natCast_inj.mp ((toU8_toNat _ ?_ ?_).trans ?_)
    all_goals rw [rollback_expiration, accumulate_expiration, creditStep_expiration]
    · omega
    · omega
  case sign => exact ite_congr (propext sgn_eq_zero_iff) (fun _ => rfl) (fun _ => rfl)

theorem integratorStep_frozen (hblock : c.blockCount ≠ 0) (he : e.natAbs ≤ 1200) :
    IntegratorFrozen cfg e c (integratorStep cfg c e) := by
  have hfrozen : c.blockCount.toNat > 0 := by bv_omega
  rw [integratorStep, if_pos hfrozen]
  refine ⟨clampedSum_toInt _, rfl, rfl, toU16_natAbs he, rfl, ?_⟩
  dsimp only
  bv_omega

end

/-! ### The evaluation as `CTL_UPDATE` runs it -/

/-- A tick that evaluates the law: with a temperature, at a changed setpoint or at a poll without a boost, away from the
sentinels (rules R201, R220). -/
theorem AcceptsInternal.exec_evaluation {s : State} {changed : Bool} (ha : AcceptsInternal s)
    (hvalid : s.env.ports.tempValid = true)
    (hchanged : decide (effSetpoint s.cfg s.ctl ≠ s.ctl.lastAppliedTemperature) = changed)
    (hopen : effSetpoint s.cfg s.ctl ≠ s.ctl.lastAppliedTemperature ∨
      (s.ctl.boostSecs = 0 ∧ s.cfg.pid.pidInterval.toNat ≤ min (s.ctl.pidCounter.toNat + 1) 255))
    (hoff : (effSetpoint s.cfg s.ctl).toNat + 1 ≠ s.cfg.setpoint.tempMin.toNat)
    (hon : (effSetpoint s.cfg s.ctl).toNat ≠ s.cfg.setpoint.tempMax.toNat + 1) :
    exec .ctlUpdate s =
      .next
        { s with
          ctl :=
            evaluate s.cfg { s.ctl with pidCounter := 0 } (effSetpoint s.cfg s.ctl) changed s.env.ports.tempAvg } := by
  subst hchanged
  have hgate : decide (effSetpoint s.cfg s.ctl ≠ s.ctl.lastAppliedTemperature) = true ∨
      s.cfg.pid.pidInterval.toNat ≤ (satInc s.ctl.pidCounter).toNat := by
    rw [satInc_toNat]
    exact hopen.imp decide_eq_true And.right
  rw [ha.exec_ctlUpdate, ctlUpdate, controlLaw_no_boost hvalid (hopen.imp_right And.left),
    gatedEvaluation_evaluates _ hgate (Bool.eq_false_iff.mpr fun h => hoff ((isOff_iff ..).mp h))
      (Bool.eq_false_iff.mpr fun h => hon ((isOn_iff ..).mp h))]

/-- Settles O21: the integrator's step on the state as it stands. -/
theorem updateIntegrator : Obligations.UpdateIntegrator := by
  intro s ha hvalid c cfg eff e hsame hboost hpoll hoff hon
  have he : e.natAbs ≤ 1200 := pidError_natAbs eff s.env.ports.tempAvg
  have hexec :=
    ha.exec_evaluation hvalid (decide_eq_false (not_not_intro hsame)) (.inr ⟨hboost, hpoll⟩) hoff hon
  refine ⟨_, hexec, ?_, integratorStep_snapSum .., integratorStep_snapAbs ..,
    (integratorStep_boostSecs ..).trans hboost, integratorStep_boostDir .., integratorStep_pidCounter .., rfl⟩
  split
  next hblock => exact integratorStep_runs (c := { c with pidCounter := 0 }) hblock (legal_credit ha.legal) he
  next hblock => exact integratorStep_frozen (c := { c with pidCounter := 0 }) hblock he

/-! ### The setpoint change (rules R223, R229) -/

theorem setpointChanged_eq (cfg : Cfg) (c : CtlState) (eff : U8) (e : Int) :
    setpointChanged cfg c eff e =
      { c with
        integratorCredit := cfg.pid.iMaxCredit
        creditExpiration := cfg.pid.iCreditExpiration
        blockCount := cfg.pid.defineIntegratorBlock
        snapSum := c.sumError
        snapAbs := toU16 e.natAbs
        boostSecs :=
          if boostStarts cfg eff c.lastAppliedTemperature e then boostDuration cfg e.natAbs else 0
        boostDir := if boostStarts cfg eff c.lastAppliedTemperature e then sgn e else c.boostDir } := by
  unfold setpointChanged
  dsimp only
  split <;> rfl

theorem boostDuration_toNat (cfg : Cfg) (a : Nat) :
    ((boostDuration cfg a).toNat : Int) = min (asr ((a : Int) * cfg.boost.boostFactor.toNat) 8 * 60) 65535 := by
  have hnonneg : 0 ≤ asr ((a : Int) * cfg.boost.boostFactor.toNat) 8 :=
    Int.fdiv_nonneg (Int.mul_nonneg (Int.natCast_nonneg _) (Int.natCast_nonneg _)) (by decide)
  exact toU16_toNat _ (by omega) (by omega)

theorem toU16_natAbs_eq {e : Int} (h : e.natAbs ≤ 1200) : toU16 e.natAbs = BitVec.ofNat 16 e.natAbs := by
  have hstored := toU16_natAbs h
  apply BitVec.eq_of_toNat_eq
  rw [hstored, BitVec.toNat_ofNat]
  omega

/-- Settles O20: the integrator's step on the fresh credit and snapshots. -/
theorem updateSetpointChange : Obligations.UpdateSetpointChange := by
  intro s ha hvalid c cfg eff e fresh boost hchanged hoff hon
  have he : e.natAbs ≤ 1200 := pidError_natAbs eff s.env.ports.tempAvg
  have hexec := ha.exec_evaluation hvalid (decide_eq_true hchanged) (.inl hchanged) hoff hon
  have hchange : setpointChanged cfg { c with pidCounter := 0 } eff e =
      { fresh with
        pidCounter := 0
        boostSecs := if boost then boostDuration cfg e.natAbs else 0
        boostDir := if boost then sgn e else c.boostDir } := by
    rw [setpointChanged_eq, toU16_natAbs_eq he]
    rfl
  refine ⟨_, hexec, ?integrator, (integratorStep_snapSum ..).trans (congrArg CtlState.snapSum hchange), ?snapAbs,
    (integratorStep_pidCounter ..).trans (congrArg CtlState.pidCounter hchange), rfl, ?boostSecs,
    (integratorStep_boostDir ..).trans (congrArg CtlState.boostDir hchange)⟩
  case integrator =>
    have hruns : ∀ t, IntegratorRuns cfg e (setpointChanged cfg { c with pidCounter := 0 } eff e) t →
        IntegratorRuns cfg e fresh t := by
      rw [hchange]
      exact fun t h => h
    have hfrozen : ∀ t, IntegratorFrozen cfg e (setpointChanged cfg { c with pidCounter := 0 } eff e) t →
        IntegratorFrozen cfg e fresh t := by
      rw [hchange]
      exact fun t h => h
    have hblockCount := congrArg CtlState.blockCount hchange
    split
    next hblock => exact hruns _ (integratorStep_runs (hblockCount.trans hblock) (legal_credit ha.legal) he)
    next hblock => exact hfrozen _ (integratorStep_frozen (fun h => hblock (hblockCount.symm.trans h)) he)
  case snapAbs =>
    refine (congrArg BitVec.toNat ((integratorStep_snapAbs ..).trans ?_)).trans (toU16_natAbs he)
    rw [toU16_natAbs_eq he]
    exact congrArg CtlState.snapAbs hchange
  case boostSecs =>
    have hsecs := (integratorStep_boostSecs cfg (setpointChanged cfg { c with pidCounter := 0 } eff e) e).trans
      (congrArg CtlState.boostSecs hchange)
    refine (congrArg (fun b : U16 => (b.toNat : Int)) hsecs).trans ?_
    dsimp only
    split
    · exact boostDuration_toNat cfg e.natAbs
    · rfl

/-! ### The output (rules R227, R228) -/

/-- Under a legal valve range the clamped output is stored as it is. -/
theorem pidOutput_toNat {cfg : Cfg} (hlegal : cfgProblem cfg = none) (old : U8) (sum : I32) (e : Int) :
    ((pidOutput cfg old sum e).toNat : Int) =
      clamp (roundOutput cfg old (clamp (outputSum cfg sum e) 0 ((cfg.pid.valveMax.toNat : Int) * 256)))
        cfg.pid.valveMin.toNat cfg.pid.valveMax.toNat := by
  obtain ⟨hle, hmax⟩ := legal_valve hlegal
  unfold pidOutput
  generalize roundOutput cfg old _ = v
  obtain ⟨hlo, hhi⟩ := clamp_bounds v cfg.pid.valveMin.toNat cfg.pid.valveMax.toNat (by omega)
  exact toU8_toNat _ (by omega) (by omega)

section
variable {cfg : Cfg} {c : CtlState} {eff : U8} {changed : Bool} {t : I16}

theorem evaluate_pidCounter : (evaluate cfg c eff changed t).pidCounter = c.pidCounter := by
  refine (integratorStep_pidCounter ..).trans ?_
  split
  · rw [setpointChanged_eq]
  · rfl

/-- Without a boost step G stores the law's output from the new sum (rule R227). -/
theorem evaluate_valve_of_law (h : (evaluate cfg c eff changed t).boostSecs = 0) :
    (evaluate cfg c eff changed t).valveHistory0 =
      pidOutput cfg c.valveHistory0 (evaluate cfg c eff changed t).sumError (pidError eff t) := by
  have hzero : (evaluate cfg c eff changed t).boostSecs.toNat = 0 := by simp [h]
  exact if_neg (Nat.not_lt.mpr (Nat.le_of_eq hzero))

/-- In a boost step G stores the limit in its direction (rule R229). -/
theorem evaluate_valve_of_boost (h : (evaluate cfg c eff changed t).boostSecs ≠ 0) :
    (evaluate cfg c eff changed t).valveHistory0 = boostOutput cfg (evaluate cfg c eff changed t) := by
  have hpos : 0 < (evaluate cfg c eff changed t).boostSecs.toNat := by bv_omega
  exact if_pos hpos

end

/-- Settles O22: the output of the law and the limit of a boost, written out. -/
theorem updateOutput : Obligations.UpdateOutput := by
  intro s ha hvalid c cfg eff e old hopen hoff hon
  refine ⟨_, ha.exec_evaluation hvalid rfl hopen hoff hon, rfl, evaluate_pidCounter, ?_⟩
  dsimp only
  split
  next hlaw =>
    rw [evaluate_valve_of_law hlaw]
    exact pidOutput_toNat ha.legal _ _ _
  next hboost => exact evaluate_valve_of_boost hboost

end Sys2Proof.Machine

namespace Sys2Proof.Machine

/-! ## The tick and its operations (rule R200)

`CTL_TICK` applies the step functions of the operations that it issues. It does the same whoever is noted as the issuer,
and in a state that notes an operation each of its steps passes the gate. -/

/-- The state with another issuer of the current operation. -/
def State.withIssuer (s : State) (i : Issuer) : State := { s with env := { s.env with issuer := i } }

section
variable (s : State) (i : Issuer)

theorem tickSync_withIssuer : tickSync (s.withIssuer i) = (tickSync s).withIssuer i := by
  unfold tickSync
  simp only [apply_ite (State.withIssuer · i)]
  rfl

theorem tickWindow_withIssuer : tickWindow (s.withIssuer i) = (tickWindow s).withIssuer i := by
  unfold tickWindow
  simp only [apply_ite (State.withIssuer · i)]
  rfl

theorem motGoto_withIssuer (p : U8) : motGoto (s.withIssuer i) p = (motGoto s p).withIssuer i := by
  unfold motGoto
  dsimp only
  simp only [apply_ite (State.withIssuer · i)]
  rfl

theorem motSettle_withIssuer : motSettle (s.withIssuer i) = (motSettle s).withIssuer i := by
  unfold motSettle
  simp only [apply_ite (State.withIssuer · i)]
  rfl

theorem motUpdateCal_withIssuer (r : U8) : motUpdateCal (s.withIssuer i) r = (motUpdateCal s r).withIssuer i := by
  have hstep : (s.withIssuer i).mot.calibrationStep = s.mot.calibrationStep := rfl
  unfold motUpdateCal
  split
  · rfl
  · rw [hstep]
    cases s.mot.calibrationStep with
    | uncalibrated => exact motSettle_withIssuer s i
    | _ => rfl

theorem tickMount_withIssuer : tickMount (s.withIssuer i) = (tickMount s).withIssuer i := by
  unfold tickMount
  simp only [apply_ite (State.withIssuer · i), ← motUpdateCal_withIssuer]
  rfl

theorem frmTxSlot_withIssuer : frmTxSlot (s.withIssuer i) = (frmTxSlot s).withIssuer i := by
  unfold frmTxSlot
  simp only [apply_ite (State.withIssuer · i)]
  rfl

/-- The tick's steps neither read nor write the issuer. -/
theorem ctlTick_withIssuer : ctlTick (s.withIssuer i) = (ctlTick s).withIssuer i := by
  have hcontroller : ∀ u : State,
      ctlUpdate (ctlBattery (u.withIssuer i)) = (ctlUpdate (ctlBattery u)).withIssuer i := fun _ => rfl
  have hsched : ∀ u : State, ctlSchedFollow (u.withIssuer i) = (ctlSchedFollow u).withIssuer i := fun _ => rfl
  have hvalve : ∀ u : State, (u.withIssuer i).ctl = u.ctl := fun _ => rfl
  simp only [ctlTick, tickSync_withIssuer, hsched, tickWindow_withIssuer, hcontroller, hvalve, motGoto_withIssuer,
    tickMount_withIssuer, frmTxSlot_withIssuer]

end

/-- A state in which `CTL_TICK` issues its operations: the internal ones and the commands are accepted, and the loop is
awake, so that a command has no sleep to end (rules R133, R200, R523). -/
structure RunsTick (s : State) : Prop extends AcceptsInternal s where
  outside : s.sys.inIsr = false
  awake : s.sys.sleeping = false

section
variable {s t : State}

theorem RunsTick.acceptsCommand (h : RunsTick s) : AcceptsCommand s :=
  ⟨h.live, h.legal, by simp [h.context], h.outside, h.booted⟩

theorem RunsTick.wake_eq (h : RunsTick s) : wake s = s := by
  have hsys : { s.sys with sleeping := false } = s.sys := by rw [← h.awake]
  rw [wake, hsys]

theorem RunsTick.hostCommand_eq (h : RunsTick s) (own : State → Effect) : hostCommand s own = settle s (own s) := by
  rw [h.acceptsCommand.hostCommand_eq, h.wake_eq]

theorem RunsTick.exec_motGoto (h : RunsTick s) (p : U8) : exec (.motGoto p) s = .next (motGoto s p) :=
  congrArg Host.Outcome.next (h.hostCommand_eq fun u => .done (motGoto u p))

theorem RunsTick.exec_motUpdateCal (h : RunsTick s) (r : U8) :
    exec (.motUpdateCal r) s = .next (motUpdateCal s r) :=
  congrArg Host.Outcome.next (h.hostCommand_eq fun u => .done (motUpdateCal u r))

/-! ### Every step of the tick leads to such a state again -/

theorem ControllerFrame.cfg_eq (h : ControllerFrame s t) : t.cfg = s.cfg := (congrArg State.cfg h.rest :)

theorem ControllerFrame.env_eq (h : ControllerFrame s t) : t.env = s.env := (congrArg State.env h.rest :)

theorem DriveFrame.env_eq (h : DriveFrame s t) : t.env = s.env := (congrArg State.env h.rest :)

theorem tickSync_frame (s : State) : ControllerFrame s (tickSync s) := by
  unfold tickSync
  split <;> exact ⟨rfl⟩

theorem tickWindow_frame (s : State) : ControllerFrame s (tickWindow s) := by
  unfold tickWindow
  split <;> exact ⟨rfl⟩

theorem RunsTick.of_controller (h : RunsTick s) (hf : ControllerFrame s t) : RunsTick t := by
  rw [hf.rest]
  exact { h with }

theorem RunsTick.of_drive (h : RunsTick s) (hf : DriveFrame s t) : RunsTick t := by
  rw [hf.rest]
  exact { h with }

/-- The frame of the motor's operations says nothing of the issuer. -/
theorem RunsTick.of_motor (h : RunsTick s) (hf : MotorFrame s t) (hissuer : t.env.issuer = s.env.issuer) :
    RunsTick t := by
  have hlegal := hf.cfg ▸ h.legal
  have hlive := h.live
  rw [State.live] at hlive
  obtain hsys | hsys | hsys := hf.sys
  · exact ⟨⟨by rwa [State.live, hsys], hlegal, hissuer.trans h.context, hsys ▸ h.booted⟩, hsys ▸ h.outside,
      hsys ▸ h.awake⟩
  · exact ⟨⟨by rwa [State.live, hsys], hlegal, hissuer.trans h.context, hsys ▸ h.booted⟩, hsys ▸ h.outside,
      hsys ▸ rfl⟩
  · exact ⟨⟨by rwa [State.live, hsys], hlegal, hissuer.trans h.context, hsys ▸ h.booted⟩, hsys ▸ h.outside,
      hsys ▸ h.awake⟩

theorem motUpdateCal_issuer (s : State) (r : U8) : (motUpdateCal s r).env.issuer = s.env.issuer :=
  (congrArg (fun x : State => x.env.issuer) (motUpdateCal_withIssuer s s.env.issuer r) :)

theorem RunsTick.after_motGoto (h : RunsTick s) : RunsTick (motGoto s s.ctl.valveHistory0) :=
  h.of_drive (motGoto_drive ..)

theorem RunsTick.after_tickMount (h : RunsTick s) : RunsTick (tickMount s) := by
  have hcal : ∀ u r, ControllerFrame s u → RunsTick (motUpdateCal u r) := fun u r hu =>
    (h.of_controller hu).of_motor (motUpdateCal_frame u r) (motUpdateCal_issuer u r)
  unfold tickMount
  split
  · exact hcal _ _ ⟨rfl⟩
  · exact hcal _ _ ⟨rfl⟩

/-! ### The two steps of the tick that look at the configuration or at an input -/

theorem RunsTick.exec_tickWindow {c : Cfg} (h : RunsTick s) (hcfg : s.cfg = c) :
    if c.window.windowStrategy = .hw then exec .ctlWindowHw s = .next (tickWindow s) else tickWindow s = s := by
  subst hcfg
  unfold tickWindow
  split
  · exact h.exec_ctlWindowHw
  · rfl

theorem RunsTick.exec_tickMount {m : Bool} (h : RunsTick s) (hm : s.env.ports.mounted = m) :
    exec (.motUpdateCal (if m then 1 else 0))
        { s with
          ctl :=
            { s.ctl with
              errorFlags := if m then s.ctl.errorFlags &&& ~~~0x20 else s.ctl.errorFlags ||| 0x20 } } =
      .next (tickMount s) := by
  rw [tickMount, hm]
  cases m with
  | true => exact (h.of_controller (t := s.clearErr errMount) ⟨rfl⟩).exec_motUpdateCal 1
  | false => exact (h.of_controller (t := s.setErr errMount) ⟨rfl⟩).exec_motUpdateCal 0

end

/-- An accepted tick is its steps with the flag cleared (rule R505). -/
theorem AcceptsTask.exec_ctlTick {s : State} (h : AcceptsTask s .tick) :
    exec .ctlTick s = .next (ctlTick (s.clearTask .tick)) :=
  congrArg Host.Outcome.next (dispatchTask_pass s .tick (fun u => .done (ctlTick u)) h.live h.legal h.context h.outside
    h.booted h.pending h.awake)

/-- Settles O16: each step of the tick is the operation that the rule names, run in a state that accepts it, and the
issuer makes no difference to the steps. -/
theorem tickRunsItsOperations : Obligations.TickRunsItsOperations := by
  intro s ha
  have hstart : RunsTick ((s.clearTask .tick).withIssuer .operation) :=
    ⟨⟨ha.live, ha.legal, rfl, ha.booted⟩, ha.outside, ha.awake⟩
  have fsync := tickSync_frame ((s.clearTask .tick).withIssuer .operation)
  have hsync := hstart.of_controller fsync
  have hsched := hsync.of_controller (t := ctlSchedFollow _) ⟨rfl⟩
  have fwindow := tickWindow_frame (ctlSchedFollow (tickSync ((s.clearTask .tick).withIssuer .operation)))
  have hwindow := hsched.of_controller fwindow
  have hbattery := hwindow.of_controller (t := ctlBattery _) ⟨rfl⟩
  have hupdate := hbattery.of_controller (t := ctlUpdate _) ⟨rfl⟩
  have hgoto := hupdate.after_motGoto
  refine ⟨_, _, _, _, _, _, _, hsync.exec_ctlSchedFollow, hsched.exec_tickWindow fsync.cfg_eq,
    hwindow.exec_ctlBattery, hbattery.exec_ctlUpdate, hupdate.exec_motGoto _, hgoto.exec_tickMount ?mounted,
    hgoto.after_tickMount.exec_frmTxSlot, ha.exec_ctlTick.trans (congrArg Host.Outcome.next ?issuer)⟩
  case mounted =>
    rw [(motGoto_drive _ _).env_eq]
    exact (congrArg (fun e : Env => e.ports.mounted) (fwindow.env_eq.trans fsync.env_eq) :)
  case issuer => exact ctlTick_withIssuer ((s.clearTask .tick).withIssuer .operation) s.env.issuer

end Sys2Proof.Machine

namespace Sys2Proof.Machine

/-! ## The motor's invariants

The drive state of rule R306 tells a step of the motor what it may do; a step that leaves a drive state for another
changes the task flag with it, and so `MotorInv` is kept. -/

/-! ### The task flags (rules R505, R506) -/

theorem taskMask_ne_zero (f : TaskFlag) : taskMask f ≠ 0 := by cases f <;> decide

theorem taskMask_disjoint {f g : TaskFlag} (h : f ≠ g) : taskMask f &&& taskMask g = 0#8 := by
  revert h
  cases f <;> cases g <;> decide

theorem not_taskMask_self (f : TaskFlag) : ~~~taskMask f &&& taskMask f = 0#8 := by cases f <;> rfl

theorem not_taskMask_other {f g : TaskFlag} (h : f ≠ g) : ~~~taskMask f &&& taskMask g = taskMask g := by
  revert h
  cases f <;> cases g <;> decide

theorem pending_congr {s t : State} (f : TaskFlag) (h : t.sys.taskFlags = s.sys.taskFlags) :
    t.pending f = s.pending f := by
  rw [State.pending, h, State.pending]

theorem pending_post_same (s : State) (f : TaskFlag) : (s.post f).pending f = true := by
  rw [State.pending, State.post_sys_taskFlags, BitVec.and_or_distrib_right, BitVec.and_self, bne_iff_ne]
  exact fun h => taskMask_ne_zero f (BitVec.or_eq_zero_iff.mp h).2

theorem pending_post_other (s : State) {f g : TaskFlag} (h : f ≠ g) : (s.post f).pending g = s.pending g := by
  rw [State.pending, State.post_sys_taskFlags, BitVec.and_or_distrib_right, taskMask_disjoint h, BitVec.or_zero,
    State.pending]

theorem pending_clearTask_same (s : State) (f : TaskFlag) : (s.clearTask f).pending f = false := by
  rw [State.pending, State.clearTask_sys_taskFlags, BitVec.and_assoc, not_taskMask_self, BitVec.and_zero]
  rfl

theorem pending_clearTask_other (s : State) {f g : TaskFlag} (h : f ≠ g) :
    (s.clearTask f).pending g = s.pending g := by
  rw [State.pending, State.clearTask_sys_taskFlags, BitVec.and_assoc, not_taskMask_other h, State.pending]

/-! ### The drive states (rule R306) -/

section
variable {m n : MotState}

/-- The four rows of the table of rule R306. -/
theorem driveState_cases (m : MotState) :
    (m.direction ≠ .stop ∧ driveState m = .driving) ∨
      (m.direction = .stop ∧ m.wdtArmed = true ∧ driveState m = .coasting) ∨
      (m.direction = .stop ∧ m.wdtArmed = false ∧ m.lastDir ≠ .stop ∧ driveState m = .stopPending) ∨
      (m.direction = .stop ∧ m.wdtArmed = false ∧ m.lastDir = .stop ∧ driveState m = .idle) := by
  unfold driveState
  split
  next hdir => exact .inl ⟨hdir, rfl⟩
  next hdir =>
    have hstop := Decidable.not_not.mp hdir
    split
    next harmed => exact .inr (.inl ⟨hstop, harmed, rfl⟩)
    next harmed =>
      have hdisarmed := Bool.eq_false_iff.mpr harmed
      split
      next hlast => exact .inr (.inr (.inl ⟨hstop, hdisarmed, hlast, rfl⟩))
      next hlast => exact .inr (.inr (.inr ⟨hstop, hdisarmed, Decidable.not_not.mp hlast, rfl⟩))

theorem driveState_idle_iff :
    driveState m = .idle ↔ m.direction = .stop ∧ m.wdtArmed = false ∧ m.lastDir = .stop := by
  obtain ⟨hdir, hd⟩ | ⟨hdir, harmed, hd⟩ | ⟨hdir, harmed, hlast, hd⟩ | ⟨hdir, harmed, hlast, hd⟩ := driveState_cases m
  all_goals simp [*]

theorem driveState_driving_iff : driveState m = .driving ↔ m.direction ≠ .stop := by
  obtain ⟨hdir, hd⟩ | ⟨hdir, harmed, hd⟩ | ⟨hdir, harmed, hlast, hd⟩ | ⟨hdir, harmed, hlast, hd⟩ := driveState_cases m
  all_goals simp [*]

theorem driveState_coasting_iff : driveState m = .coasting ↔ m.direction = .stop ∧ m.wdtArmed = true := by
  obtain ⟨hdir, hd⟩ | ⟨hdir, harmed, hd⟩ | ⟨hdir, harmed, hlast, hd⟩ | ⟨hdir, harmed, hlast, hd⟩ := driveState_cases m
  all_goals simp [*]

theorem driveState_stopPending_iff :
    driveState m = .stopPending ↔ m.direction = .stop ∧ m.wdtArmed = false ∧ m.lastDir ≠ .stop := by
  obtain ⟨hdir, hd⟩ | ⟨hdir, harmed, hd⟩ | ⟨hdir, harmed, hlast, hd⟩ | ⟨hdir, harmed, hlast, hd⟩ := driveState_cases m
  all_goals simp [*]

/-- A move whose bookkeeping is not done coasts or has its stop pending (rules R300, R306). -/
theorem stopUnfinished_iff :
    stopUnfinished m = true ↔ m.direction = .stop ∧ (m.wdtArmed = true ∨ m.lastDir ≠ .stop) := by
  simp [stopUnfinished]

/-- The motors agree in all that the drive state and the calibration invariant read. -/
structure SameDrive (m n : MotState) : Prop where
  direction : n.direction = m.direction
  lastDir : n.lastDir = m.lastDir
  wdtArmed : n.wdtArmed = m.wdtArmed
  calibrationStep : n.calibrationStep = m.calibrationStep
  maxPulses : n.maxPulses = m.maxPulses

theorem SameDrive.driveState_eq (h : SameDrive m n) : driveState n = driveState m := by
  simp only [driveState, h.direction, h.lastDir, h.wdtArmed]

end

/-! ### What leads to the invariants again (rule R315) -/

section
variable {s t : State}

/-- Nothing that the invariants read changed, but the noted times and the clock. -/
theorem MotorInv.of_sameDrive (h : MotorInv s) (hdrive : SameDrive s.mot t.mot)
    (hpending : t.pending .motorStop = s.pending .motorStop) (hpulse : t.mot.lastPulseTime ≤ t.sys.now)
    (hedge : t.mot.eyeLastTime ≤ t.sys.now) : MotorInv t where
  driving_armed := by
    rw [hdrive.direction, hdrive.wdtArmed, hdrive.lastDir]
    exact h.driving_armed
  armed_moving := by
    rw [hdrive.wdtArmed, hdrive.lastDir]
    exact h.armed_moving
  calibrated_travel := by
    rw [hdrive.calibrationStep, hdrive.maxPulses]
    exact h.calibrated_travel
  early_idle := by
    rw [hdrive.calibrationStep, hdrive.driveState_eq]
    exact h.early_idle
  stop_posted := by
    rw [hpending, hdrive.driveState_eq]
    exact h.stop_posted
  pulse_past := hpulse
  edge_past := hedge

/-- The motor is as it was and the clock not behind. -/
theorem MotorInv.congr (h : MotorInv s) (hmot : t.mot = s.mot)
    (hpending : t.pending .motorStop = s.pending .motorStop) (hnow : s.sys.now ≤ t.sys.now) : MotorInv t := by
  refine h.of_sameDrive (by rw [hmot]; exact ⟨rfl, rfl, rfl, rfl, rfl⟩) hpending ?_ ?_
  · rw [hmot]
    exact Nat.le_trans h.pulse_past hnow
  · rw [hmot]
    exact Nat.le_trans h.edge_past hnow

/-- An idle motor with no stop task (rules R306, R315). -/
theorem MotorInv.of_idle (hidle : driveState s.mot = .idle) (hpending : s.pending .motorStop = false)
    (htravel : s.mot.calibrationStep = .calibrated → s.mot.maxPulses ≠ 0)
    (hpulse : s.mot.lastPulseTime ≤ s.sys.now) (hedge : s.mot.eyeLastTime ≤ s.sys.now) : MotorInv s := by
  obtain ⟨hdir, harmed, -⟩ := driveState_idle_iff.mp hidle
  exact
    { driving_armed := fun h => absurd hdir h
      armed_moving := fun h => by simp [harmed] at h
      calibrated_travel := htravel
      early_idle := fun _ => hidle
      stop_posted := by simp [hpending, hidle]
      pulse_past := hpulse
      edge_past := hedge }

/-- A drive started in a step of the calibration that allows one (rules R307, R315). -/
theorem startDrive_motorInv {d : Direction} (v : Int) (hd : d ≠ .stop) (hpending : s.pending .motorStop = false)
    (hstep : s.mot.calibrationStep = .toOpen ∨ s.mot.calibrationStep = .toClose ∨
      (s.mot.calibrationStep = .calibrated ∧ s.mot.maxPulses ≠ 0))
    (hedge : s.mot.eyeLastTime ≤ s.sys.now) : MotorInv (startDrive s d v) where
  driving_armed _ := ⟨rfl, rfl⟩
  armed_moving _ := hd
  calibrated_travel h := by
    obtain hopen | hclose | ⟨-, htravel⟩ := hstep
    · cases hopen.symm.trans h
    · cases hclose.symm.trans h
    · exact htravel
  early_idle h := by
    obtain hc | hc | ⟨hc, -⟩ := hstep
    all_goals simp [hc] at h
  stop_posted := by
    have hdriving : driveState (startDrive s d v).mot = .driving := driveState_driving_iff.mpr hd
    have hflag : (startDrive s d v).pending .motorStop = false := hpending
    simp [hdriving, hflag]
  pulse_past := Nat.le_refl _
  edge_past := hedge

theorem MotorInv.not_pending (h : MotorInv s) (hdrive : driveState s.mot ≠ .stopPending) :
    s.pending .motorStop = false :=
  Bool.eq_false_iff.mpr fun hp => hdrive (h.stop_posted.mp hp)

theorem MotorInv.not_pending_of_idle (h : MotorInv s) (hidle : driveState s.mot = .idle) :
    s.pending .motorStop = false :=
  h.not_pending (by simp [hidle])

/-- A running drive that is cut coasts (rule R308). -/
theorem cutDrive_motorInv (h : MotorInv s) (hdriving : s.mot.direction ≠ .stop) (r : StopReason) :
    MotorInv (cutDrive s r) := by
  obtain ⟨harmed, -⟩ := h.driving_armed hdriving
  have hmoving : driveState s.mot = .driving := driveState_driving_iff.mpr hdriving
  have hcoasting : driveState (cutDrive s r).mot = .coasting := driveState_coasting_iff.mpr ⟨rfl, harmed⟩
  have hflag : (cutDrive s r).pending .motorStop = false := h.not_pending (by simp [hmoving])
  exact
    { driving_armed := fun hd => absurd rfl hd
      armed_moving := h.armed_moving
      calibrated_travel := h.calibrated_travel
      early_idle := fun he => absurd (h.early_idle he) (by simp [hmoving])
      stop_posted := by simp [hflag, hcoasting]
      pulse_past := h.pulse_past
      edge_past := h.edge_past }

end

/-! ### The steps of the motor -/

section
variable {s t : State}

/-- The drive direction that brings the position to the target (rule R300). -/
def gotoDirection (s : State) (p : U8) : Direction :=
  if 0 < gotoTarget s p - s.mot.positionPulses.toInt then .opening else .closing

theorem gotoDirection_ne_stop (s : State) (p : U8) : gotoDirection s p ≠ .stop := by
  unfold gotoDirection
  split <;> decide

/-- `MOT_GOTO` writes the motor only, by drive state and distance (rules R300, R307, R308). -/
theorem motGoto_eq (s : State) (p : U8) :
    motGoto s p =
      { s with
        mot :=
          if s.mot.calibrationStep ≠ .calibrated ∨
              (s.mot.direction = .stop ∧ (s.mot.wdtArmed = true ∨ s.mot.lastDir ≠ .stop)) then s.mot
          else if (gotoTarget s p - s.mot.positionPulses.toInt).natAbs ≤ s.cfg.motor.tol.toNat then
            if s.mot.direction ≠ .stop then (cutDrive (setTarget s (gotoTarget s p)) .target).mot else s.mot
          else if gotoDirection s p = s.mot.direction then (setTarget s (gotoTarget s p)).mot
          else (startDrive s (gotoDirection s p) (gotoTarget s p)).mot } := by
  unfold motGoto
  dsimp only
  split
  next hcal => rw [if_pos (.inl hcal)]
  next hcal =>
    split
    next hunfinished => rw [if_pos (.inr (stopUnfinished_iff.mp hunfinished))]
    next hready =>
      rw [if_neg (not_or.mpr ⟨hcal, mt stopUnfinished_iff.mpr hready⟩)]
      split
      · split <;> rfl
      · change (if gotoDirection s p ≠ s.mot.direction then _ else _) = _
        by_cases hsame : gotoDirection s p = s.mot.direction
        · rw [if_neg (not_not_intro hsame), if_pos hsame]
          rfl
        · rw [if_pos hsame, if_neg hsame]
          rfl

theorem setTarget_motorInv (h : MotorInv s) (v : Int) : MotorInv (setTarget s v) :=
  h.of_sameDrive ⟨rfl, rfl, rfl, rfl, rfl⟩ rfl h.pulse_past h.edge_past

/-- A drive starts in a calibrated motor that drives or is idle, never while a stop is pending. -/
theorem motGoto_motorInv (h : MotorInv s) (p : U8) : MotorInv (motGoto s p) := by
  rw [motGoto_eq]
  split
  · exact h
  next hready =>
    obtain ⟨hcal, hfinished⟩ := not_or.mp hready
    split
    · split
      next hdriving => exact cutDrive_motorInv (setTarget_motorInv h _) hdriving .target
      · exact h
    · split
      · exact setTarget_motorInv h _
      · have hflag : s.pending .motorStop = false := h.not_pending fun hstop => by
          obtain ⟨hdir, -, hlast⟩ := driveState_stopPending_iff.mp hstop
          exact hfinished ⟨hdir, .inr hlast⟩
        have hstep := Decidable.not_not.mp hcal
        exact startDrive_motorInv _ (gotoDirection_ne_stop s p) hflag
          (.inr (.inr ⟨hstep, h.calibrated_travel hstep⟩)) h.edge_past

theorem motSettle_motorInv (h : MotorInv s) (hidle : driveState s.mot = .idle) : MotorInv (motSettle s) := by
  unfold motSettle
  split
  · exact .of_idle hidle (h.not_pending_of_idle hidle) (fun hc => nomatch hc) h.pulse_past h.edge_past
  · exact h.of_sameDrive ⟨rfl, rfl, rfl, rfl, rfl⟩ rfl h.pulse_past h.edge_past

theorem motUpdateCal_motorInv (h : MotorInv s) (r : U8) : MotorInv (motUpdateCal s r) := by
  unfold motUpdateCal
  split
  · exact .of_idle rfl (pending_clearTask_same s .motorStop) (fun hc => nomatch hc) h.pulse_past h.edge_past
  · split
    next hcal => exact motSettle_motorInv h (h.early_idle (.inl hcal))
    next hcal =>
      have hflag := h.not_pending_of_idle (h.early_idle (.inr (.inr hcal)))
      exact startDrive_motorInv _ (by decide) hflag (.inl rfl) h.edge_past
    all_goals exact h

/-! ### The stop task (rules R313, R314) -/

theorem motFail_motorInv (h : MotorInv s) (hidle : driveState s.mot = .idle) : MotorInv (motFail s) :=
  .of_idle hidle (h.not_pending_of_idle hidle) (fun hc => nomatch hc) h.pulse_past h.edge_past

theorem finishMove_motorInv (h : MotorInv s) (hidle : driveState s.mot = .idle) (why : StopReason) (d : Direction) :
    MotorInv (finishMove s why d) := by
  unfold finishMove
  split
  · exact h
  · exact h
  · split
    · split
      · exact h.of_sameDrive ⟨rfl, rfl, rfl, rfl, rfl⟩ rfl h.pulse_past h.edge_past
      · exact h
    · split
      · exact motFail_motorInv h hidle
      · exact h.of_sameDrive ⟨rfl, rfl, rfl, rfl, rfl⟩ rfl h.pulse_past h.edge_past
      · exact h

theorem openEndstop_motorInv (h : MotorInv s) (hidle : driveState s.mot = .idle) (why : StopReason) (d : Direction) :
    MotorInv (openEndstop s why d) := by
  have hflag := h.not_pending_of_idle hidle
  unfold openEndstop
  split
  · split
    next hhint =>
      refine .of_idle hidle hflag (fun _ hzero => ?_) h.pulse_past h.edge_past
      have hhint' : s.nv.persistedMaxPulses.toNat = 0 := (congrArg BitVec.toNat hzero :)
      omega
    · exact startDrive_motorInv _ (by decide) hflag (.inr (.inl rfl)) h.edge_past
  · exact motFail_motorInv h hidle

/-- A travel that is measured is positive (rule R313). -/
theorem toU16_ne_zero {v : Int} (h0 : 0 < v) (h1 : v ≤ 65535) : toU16 v ≠ 0 := fun hzero => by
  have hv := toU16_toNat v (Int.le_of_lt h0) h1
  have hz : (0 : U16).toNat = 0 := rfl
  rw [hzero, hz] at hv
  omega

theorem closeEndstop_motorInv (h : MotorInv s) (hidle : driveState s.mot = .idle) (why : StopReason) (d : Direction) :
    MotorInv (closeEndstop s why d) := by
  unfold closeEndstop
  split
  · split
    next hdist =>
      have hlow : -2 ^ 15 ≤ s.mot.positionPulses.toInt := BitVec.le_toInt _
      have htravel : toU16 (-s.mot.positionPulses.toInt) ≠ 0 := toU16_ne_zero (by omega) (by omega)
      exact .of_idle hidle (h.not_pending_of_idle hidle) (fun _ => htravel) h.pulse_past h.edge_past
    · exact motFail_motorInv h hidle
  · exact motFail_motorInv h hidle

/-- The stop task runs in stop pending and clears its flag, so it begins like an idle motor (rules R306, R313). -/
theorem motTimerStop_motorInv (h : MotorInv s) (hpending : s.pending .motorStop = true) :
    MotorInv (motTimerStop (s.clearTask .motorStop)) := by
  obtain ⟨hdir, harmed, -⟩ := driveState_stopPending_iff.mp (h.stop_posted.mp hpending)
  have hidle : driveState { s.mot with lastDir := .stop, stopReason := .none } = .idle :=
    driveState_idle_iff.mpr ⟨hdir, harmed, rfl⟩
  have hended : MotorInv
      { s.clearTask .motorStop with mot := { s.mot with lastDir := .stop, stopReason := .none } } :=
    .of_idle hidle (pending_clearTask_same s .motorStop) h.calibrated_travel h.pulse_past h.edge_past
  unfold motTimerStop
  dsimp only
  split
  · exact openEndstop_motorInv hended hidle _ _
  · exact closeEndstop_motorInv hended hidle _ _
  · exact finishMove_motorInv hended hidle _ _
  all_goals exact hended

/-! ### The motor's interrupts (rules R303, R305) -/

/-- The handler of the watchdog, entered only while it is armed, leaves a move whose stop is posted. -/
theorem motorWdt_motorInv (h : MotorInv s) (harmed : s.mot.wdtArmed = true) : MotorInv (motorWdt s) := by
  have hflag : (motorWdt s).pending .motorStop = true := pending_post_same _ _
  have hstop : driveState (motorWdt s).mot = .stopPending :=
    driveState_stopPending_iff.mpr ⟨rfl, rfl, h.armed_moving harmed⟩
  exact
    { driving_armed := fun hd => absurd rfl hd
      armed_moving := fun ha => nomatch ha
      calibrated_travel := h.calibrated_travel
      early_idle := fun he => by
        have hidle := driveState_idle_iff.mp (h.early_idle he)
        simp [harmed] at hidle
      stop_posted := by simp [hflag, hstop]
      pulse_past := h.pulse_past
      edge_past := h.edge_past }

/-- The duty after one regulated pulse (rule R304). -/
def regulatedDuty (c : MotorCfg) (duty : U8) (q : U16) : U8 :=
  toU8 (clamp ((duty.toNat : Int) + pwmDelta c q) c.pwmMin.toNat c.pwmMax.toNat)

theorem motTimerPulse_eq (s : State) (q : U16) :
    motTimerPulse s q = { s with mot := { s.mot with pwmDuty := regulatedDuty s.cfg.motor s.mot.pwmDuty q } } := rfl

/-- A pulse is ignored while the ignore count lasts, else it regulates the duty (rules R303, R304). -/
theorem drivePulse_eq (s : State) :
    drivePulse s =
      { s with
        mot :=
          { s.mot with
            lastPulseTime := s.sys.now
            ignoreCount := if 0 < s.mot.ignoreCount.toNat then s.mot.ignoreCount - 1 else s.mot.ignoreCount
            wdtDeadline :=
              s.sys.now + if 0 < s.mot.ignoreCount.toNat then 8 * wdtReload s else wdtReload s
            pwmDuty :=
              if 0 < s.mot.ignoreCount.toNat then s.mot.pwmDuty
              else
                regulatedDuty s.cfg.motor s.mot.pwmDuty
                  (toU16 (min ((s.sys.now : Int) - s.mot.lastPulseTime) 65535)) } } := by
  unfold drivePulse
  dsimp only
  split <;> rfl

section
variable {l : BitVec 1}

theorem eyeEdge_rejected (h : edgeAccepted s l = false) : eyeEdge s l = s := by
  simp [eyeEdge, h]

/-- Idle or stop pending: only the filter takes the edge over. -/
theorem eyeEdge_filtered (h : edgeAccepted s l = true) (hdir : s.mot.direction = .stop)
    (harmed : s.mot.wdtArmed = false) : eyeEdge s l = edgeLatched s l := by
  rw [eyeEdge, if_pos h]
  by_cases hlast : s.mot.lastDir = .stop
  · have hidle : driveState (edgeLatched s l).mot = .idle := driveState_idle_iff.mpr ⟨hdir, harmed, hlast⟩
    simp [hidle]
  · have hstop : driveState (edgeLatched s l).mot = .stopPending :=
      driveState_stopPending_iff.mpr ⟨hdir, harmed, hlast⟩
    simp [hstop]

theorem eyeEdge_coasting (h : edgeAccepted s l = true) (hdir : s.mot.direction = .stop)
    (harmed : s.mot.wdtArmed = true) : eyeEdge s l = coastPulse (pulseCounted (edgeLatched s l)) := by
  have hcoasting : driveState (edgeLatched s l).mot = .coasting := driveState_coasting_iff.mpr ⟨hdir, harmed⟩
  simp [eyeEdge, h, hcoasting]

theorem eyeEdge_driving (h : edgeAccepted s l = true) (hdir : s.mot.direction ≠ .stop) :
    eyeEdge s l =
      let u := drivePulse (pulseCounted (edgeLatched s l))
      if targetReached u.mot then cutDrive u .target else u := by
  have hdriving : driveState (edgeLatched s l).mot = .driving := driveState_driving_iff.mpr hdir
  simp [eyeEdge, h, hdriving]

theorem eyeEdge_motorInv (h : MotorInv s) (l : BitVec 1) : MotorInv (eyeEdge s l) := by
  have hlatched : MotorInv (edgeLatched s l) :=
    h.of_sameDrive ⟨rfl, rfl, rfl, rfl, rfl⟩ rfl h.pulse_past (Nat.le_refl _)
  have hcounted : MotorInv (pulseCounted (edgeLatched s l)) :=
    hlatched.of_sameDrive ⟨rfl, rfl, rfl, rfl, rfl⟩ rfl h.pulse_past (Nat.le_refl _)
  have hpulse : MotorInv (drivePulse (pulseCounted (edgeLatched s l))) := by
    rw [drivePulse_eq]
    exact hcounted.of_sameDrive ⟨rfl, rfl, rfl, rfl, rfl⟩ rfl (Nat.le_refl _) (Nat.le_refl _)
  cases hacc : edgeAccepted s l with
  | false => rwa [eyeEdge_rejected hacc]
  | true =>
    by_cases hdir : s.mot.direction = .stop
    · cases harmed : s.mot.wdtArmed with
      | false => rwa [eyeEdge_filtered hacc hdir harmed]
      | true =>
        rw [eyeEdge_coasting hacc hdir harmed]
        exact hcounted.of_sameDrive ⟨rfl, rfl, rfl, rfl, rfl⟩ rfl h.pulse_past (Nat.le_refl _)
    · rw [eyeEdge_driving hacc hdir]
      dsimp only
      split
      · refine cutDrive_motorInv hpulse ?_ _
        rwa [drivePulse_eq]
      · exact hpulse

end

/-! ### The other units -/

theorem MotorInv.of_controller (h : MotorInv s) (hf : ControllerFrame s t) : MotorInv t := by
  rw [hf.rest]
  exact h.congr rfl rfl (Nat.le_refl _)

theorem MotorInv.of_radio (h : MotorInv s) (hf : RadioFrame s t) : MotorInv t := by
  obtain ⟨b, hsys | hsys⟩ := hf.sys
  · have hflags : t.sys.taskFlags = s.sys.taskFlags := (congrArg SysState.taskFlags hsys :)
    have hnow : t.sys.now = s.sys.now := (congrArg SysState.now hsys :)
    exact h.congr hf.mot (pending_congr _ hflags) (Nat.le_of_eq hnow.symm)
  · have hflags : t.sys.taskFlags = (s.post .rfm).sys.taskFlags := (congrArg SysState.taskFlags hsys :)
    have hnow : t.sys.now = s.sys.now := (congrArg SysState.now hsys :)
    exact h.congr hf.mot ((pending_congr _ hflags).trans (pending_post_other s (by decide))) (Nat.le_of_eq hnow.symm)

theorem pseudocode_system_motorInv {i : Instr} (hi : partOf i = .system) (hr : i ≠ .sysReset) (h : MotorInv s)
    (hd : pseudocode i s = .done t) : MotorInv t := by
  cases i with
  | sysReset => exact absurd rfl hr
  | sysBoot =>
    obtain ⟨-, ⟨u, hu, -, -, rfl⟩ | rfl⟩ := sysBoot_done hd
    · exact (h.of_radio hu).congr rfl rfl (Nat.le_refl _)
    · exact h.congr rfl rfl (Nat.le_refl _)
  | sysSleep =>
    obtain ⟨-, rfl⟩ := sysSleep_done hd
    exact h.congr rfl rfl (Nat.le_refl _)
  | evTmrTick =>
    cases hd
    exact h.congr rfl rfl (Nat.le_succ _)
  | evRtcSecond =>
    cases hd
    exact h.congr rfl (pending_post_other s (by decide)) (Nat.le_refl _)
  | sysCli | sysSei =>
    cases hd
    exact h.congr rfl rfl (Nat.le_refl _)
  | _ => cases hi

/-- The motor's operations, but for the two that run in one drive state only. -/
theorem pseudocode_motor_motorInv {i : Instr} (hi : partOf i = .motor) (hstop : i ≠ .motTimerStop)
    (hwdt : i ≠ .evMotorWdt) (h : MotorInv s) (hd : pseudocode i s = .done t) : MotorInv t := by
  cases i with
  | motGoto p =>
    cases hd
    exact motGoto_motorInv h p
  | motUpdateCal r =>
    cases hd
    exact motUpdateCal_motorInv h r
  | motGetPosPercent | motTimerPulse =>
    cases hd
    exact h.of_sameDrive ⟨rfl, rfl, rfl, rfl, rfl⟩ rfl h.pulse_past h.edge_past
  | evEyeEdge l =>
    cases hd
    exact eyeEdge_motorInv h l
  | motTimerStop => exact absurd rfl hstop
  | evMotorWdt => exact absurd rfl hwdt
  | _ => cases hi

theorem ctlTick_motorInv (h : MotorInv s) : MotorInv (ctlTick s) :=
  ctlTick_keeps (P := MotorInv) (fun _ _ _ hu => hu.of_controller ⟨rfl⟩) (fun _ hu => hu.of_controller ⟨rfl⟩)
    (fun _ hu => hu.of_controller ⟨rfl⟩) (fun _ hu => hu.of_controller ⟨rfl⟩) (fun _ hu => hu.of_controller ⟨rfl⟩)
    (fun _ hu => hu.of_controller ⟨rfl⟩) (fun _ p hu => motGoto_motorInv hu p)
    (fun _ r hu => motUpdateCal_motorInv hu r) (fun _ hu => hu.of_radio (frmTxSlot_frame _)) h

theorem pseudocode_motorInv {i : Instr} (hr : i ≠ .sysReset) (hstop : i ≠ .motTimerStop) (hwdt : i ≠ .evMotorWdt)
    (h : MotorInv s) (hd : pseudocode i s = .done t) : MotorInv t := by
  cases hi : partOf i with
  | system => exact pseudocode_system_motorInv hi hr h hd
  | controller => exact h.of_controller (pseudocode_controller hi hd)
  | motor => exact pseudocode_motor_motorInv hi hstop hwdt h hd
  | radio => exact h.of_radio (pseudocode_radio hi hd)
  | tick =>
    cases i with
    | ctlTick =>
      cases hd
      exact ctlTick_motorInv h
    | _ => cases hi

/-! ### Entry, return and the step -/

/-- Entry clears the stop task for `MOT_TIMER_STOP` alone (rule R505). -/
theorem MotorInv.entered {i : Instr} (h : MotorInv s) (hstop : i ≠ .motTimerStop) : MotorInv (entered i s) := by
  refine h.congr (entered_frame i s).mot ?_ (Nat.le_of_eq (entered_now i s).symm)
  unfold Machine.entered
  cases i.context with
  | any | internal | interrupt => rfl
  | task =>
    cases hf : taskOf i with
    | none => rfl
    | some f =>
      refine pending_clearTask_other s ?_
      rintro rfl
      cases i with
      | motTimerStop => exact hstop rfl
      | _ => cases hf

theorem MotorInv.leave (h : MotorInv s) (i : Instr) : MotorInv (leave i s) := by
  refine h.congr (leave_frame i s).mot ?_ (Nat.le_of_eq (leave_now i s).symm)
  unfold Machine.leave
  cases i.context <;> rfl

/-- A task is admitted only while its flag is pending (rule R505). -/
theorem Admitted.pending {i : Instr} {f : TaskFlag} (h : Admitted i s) (hctx : i.context = .task) (hb : i ≠ .sysBoot)
    (hf : taskOf i = some f) : s.pending f = true := by
  have hmem : (!s.pending f || s.sys.sleeping, RefuseReason.notPending) ∈ gateChecks i s := by
    simp [gateChecks, hctx, hb, hf]
  have hpass := firstFailure_none h.checks _ hmem
  simp only [Bool.or_eq_false_iff, Bool.not_eq_false'] at hpass
  exact hpass.1

/-- As `step_keeps`, for a predicate that an event keeps only if its own condition holds (rule R502). -/
theorem step_keeps_taken {P : State → Prop} (hdeliver : ∀ s d rest, P s → P (delivered d rest s))
    (hmark : ∀ s t, OnlyMarked s t → P s → P t) (hreset : ∀ s, P (resetState s))
    (hown : ∀ i s u, i ≠ .sysReset → Admitted i s → notTaken i s = false → P s →
      pseudocode i (Machine.entered i s) = .done u → P (Machine.leave i u))
    (hs : P s) (h : step s = .next t) : P t := by
  obtain rfl | ⟨d, rest, hm | ⟨i, hi⟩⟩ := step_cases h
  · exact hs
  · exact hmark _ _ hm (hdeliver s d rest hs)
  · obtain ⟨_, rfl⟩ | hm | ⟨hr, ha, u, hu, rfl⟩ := exec_cases hi
    · exact hreset _
    · exact hmark _ _ hm (hdeliver s d rest hs)
    · cases htaken : notTaken i (delivered d rest s) with
      | false => exact hown i _ u hr ha htaken (hdeliver s d rest hs) hu
      | true =>
        rw [exec_eq_gate i _ hr, if_pos htaken] at hi
        rw [← Host.Outcome.next.inj hi]
        exact hdeliver s d rest hs

/-- The watchdog event is taken only while the watchdog is armed (rule R502). -/
theorem wdtArmed_of_taken (ha : Admitted .evMotorWdt s) (htaken : notTaken .evMotorWdt s = false) :
    s.mot.wdtArmed = true := by
  have hsource : (s.env.issuer != .source, RefuseReason.context) ∈ gateChecks .evMotorWdt s := List.mem_cons_self
  have hissuer := firstFailure_none ha.checks _ hsource
  simp only [bne_eq_false_iff_eq] at hissuer
  simp only [notTaken, Instr.context, hissuer, eventCondition, wdtEnabled, beq_self_eq_true, Bool.true_and,
    Bool.not_eq_false', Bool.and_eq_true] at htaken
  obtain ⟨-, ⟨-, harmed⟩, -⟩ := htaken
  exact harmed

end

theorem resetState_motorInv (s : State) : MotorInv (resetState s) :=
  .of_idle rfl (by simp [State.pending, resetState, resetSys]) (fun hc => nomatch hc) (Nat.le_refl _) (Nat.le_refl _)

/-- Settles O56: by cases on the units; `MOT_TIMER_STOP` and `EV_MOTOR_WDT` change the stop task, and the gate lets each
run in the one drive state in which that is right. -/
theorem motorInvKept : Obligations.MotorInvKept := by
  intro s t hs hstep
  refine step_keeps_taken (P := MotorInv) ?deliver ?mark ?reset ?own hs hstep
  case deliver => exact fun s d rest h => h.congr rfl rfl (Nat.le_refl _)
  case mark =>
    intro s t hm h
    cases hm
    · exact h
    all_goals exact h.congr rfl rfl (Nat.le_refl _)
  case reset => exact resetState_motorInv
  case own =>
    intro i s u hr ha htaken h hd
    refine MotorInv.leave ?_ i
    by_cases hstop : i = .motTimerStop
    · subst hstop
      cases hd
      exact motTimerStop_motorInv h (ha.pending rfl (by decide) rfl)
    · by_cases hwdt : i = .evMotorWdt
      · subst hwdt
        cases hd
        have harmed := wdtArmed_of_taken ha htaken
        exact motorWdt_motorInv (h.entered hstop) harmed
      · exact pseudocode_motorInv hr hstop hwdt (h.entered hstop) hd

end Sys2Proof.Machine

namespace Sys2Proof.Machine

/-! ## What the motor's operations answer -/

/-- The reset state is what `SYS_RESET` makes of it, so it has what every reset gives. -/
theorem resetState_reset : resetState State.reset = State.reset := rfl

/-- Settles O60: each unit's part of the reset state has its invariant, whatever was reset. -/
theorem resetHasInvariants : Obligations.ResetHasInvariants := by
  rw [Obligations.ResetHasInvariants, ← resetState_reset]
  exact ⟨resetState_motorInv _, .not_transmitting (.inl rfl) (fun h => nomatch h) rfl, resetState_systemInv _,
    (controlInv_iff _).mpr (resetCtl_inRange _)⟩

/-! ### Numbers that fit -/

theorem toI16_fits {v : Int} (h0 : -32768 ≤ v) (h1 : v ≤ 32767) : toI16 v = BitVec.ofInt 16 v := if_pos ⟨h0, h1⟩

theorem toU16_fits {v : Int} (h0 : 0 ≤ v) (h1 : v ≤ 65535) : toU16 v = BitVec.ofInt 16 v := if_pos ⟨h0, h1⟩

/-- An i16 value assigned to an i16 field. -/
theorem toI16_of_toInt (x : I16) : toI16 x.toInt = x := by
  have hlo : -2 ^ 15 ≤ x.toInt := BitVec.le_toInt x
  have hhi : x.toInt < 2 ^ 15 := BitVec.toInt_lt
  rw [toI16_fits (by omega) (by omega), BitVec.ofInt_toInt]

/-- A u16 value that is also an i16 value (rule R313). -/
theorem toI16_of_toNat {x : U16} (h : x.toNat ≤ 32767) : toI16 x.toNat = x := by
  rw [toI16_fits (by omega) (by omega), BitVec.ofInt_natCast, BitVec.ofNat_toNat, BitVec.setWidth_eq]

theorem toI16_neg_of_toInt {x : I16} (h : -32767 ≤ x.toInt) : toI16 (-x.toInt) = -x := by
  have hhi : x.toInt < 2 ^ 15 := BitVec.toInt_lt
  rw [toI16_fits (by omega) (by omega), BitVec.ofInt_neg, BitVec.ofInt_toInt]

/-- The calibration target fits an i16 with either sign (rule R61). -/
theorem legal_calLarge {c : Cfg} (h : cfgProblem c = none) :
    1 ≤ c.motor.calLarge.toInt ∧ c.motor.calLarge.toInt ≤ 16383 := by
  have hb := boundsHold_of_legal h
  simp only [boundsHold, Bool.and_eq_true, decide_eq_true_eq] at hb
  omega

/-! ### The duty and the watchdog (rules R304, R311) -/

/-- The duty stays within a u8, whatever the order of the PWM bounds. -/
theorem regulatedDuty_toNat (c : MotorCfg) (duty : U8) (q : U16) :
    ((regulatedDuty c duty q).toNat : Int) =
      clamp ((duty.toNat : Int) + pwmDelta c q) c.pwmMin.toNat c.pwmMax.toNat := by
  have hmax := c.pwmMax.isLt
  exact toU8_toNat _ (by unfold clamp; omega) (by unfold clamp; omega)

theorem wdtReload_eq (s : State) :
    wdtReload s =
      if s.mot.calibrationStep = .pendingStart ∨ s.mot.calibrationStep = .toOpen ∨ s.mot.calibrationStep = .toClose then
        s.cfg.motor.wdtCal.toNat
      else s.cfg.motor.wdtRun.toNat := by
  unfold wdtReload
  cases s.mot.calibrationStep <;> rfl

/-- Settles O34: the internal operation writes the regulated duty. -/
theorem timerPulseResult : Obligations.TimerPulseResult := by
  intro s q ha
  exact ⟨regulatedDuty s.cfg.motor s.mot.pwmDuty q, regulatedDuty_toNat .., congrArg Host.Outcome.next
    (ha.internalOp_eq (motTimerPulse · q))⟩

/-! ### Commands (rules R300, R301) -/

theorem AcceptsCommand.exec_motGoto {s : State} (h : AcceptsCommand s) (p : U8) :
    exec (.motGoto p) s = .next (motGoto (wake s) p) :=
  congrArg Host.Outcome.next (h.hostCommand_eq fun u => .done (motGoto u p))

theorem AcceptsCommand.exec_motUpdateCal {s : State} (h : AcceptsCommand s) (r : U8) :
    exec (.motUpdateCal r) s = .next (motUpdateCal (wake s) r) :=
  congrArg Host.Outcome.next (h.hostCommand_eq fun u => .done (motUpdateCal u r))

theorem scalePulses_eq (p m : Nat) :
    scalePulses p m = if p = 0 then 0 else if 100 ≤ p then (m : Int) else (p * m / 100 : Nat) := rfl

theorem scalePulses_nonneg (p m : Nat) : 0 ≤ scalePulses p m := by
  rw [scalePulses_eq]
  split
  · exact Int.le_refl 0
  · split
    · exact Int.natCast_nonneg m
    · exact Int.natCast_nonneg _

theorem wdtReload_of_calibrated {s : State} (h : s.mot.calibrationStep = .calibrated) :
    wdtReload s = s.cfg.motor.wdtRun.toNat := by
  rw [wdtReload, h]

/-- Settles O31: the branches of `motGoto`, with a target that fits its field. -/
theorem gotoResult : Obligations.GotoResult := by
  intro s p ha
  dsimp only
  intro hfits
  have htarget : gotoTarget (wake s) p =
      if min p.toNat 100 = 0 then 0 else if 100 ≤ min p.toNat 100 then (s.mot.maxPulses.toNat : Int)
      else (min p.toNat 100 * s.mot.maxPulses.toNat / 100 : Nat) := scalePulses_eq ..
  rw [← htarget] at hfits ⊢
  have h0 : 0 ≤ gotoTarget (wake s) p := scalePulses_nonneg ..
  rw [ha.exec_motGoto, motGoto_eq, ← toI16_fits (by omega) hfits]
  by_cases hcal : s.mot.calibrationStep = .calibrated
  · have hreload := wdtReload_of_calibrated (s := wake s) hcal
    rw [startDrive, hreload]
    rfl
  · rw [if_pos (.inl hcal), if_pos (.inl hcal)]
    rfl

theorem motSettle_eq (s : State) :
    motSettle s =
      { s with
        mot :=
          if s.cfg.motor.settleTicks.toNat ≤ (satInc s.mot.settleCount).toNat then
            { s.mot with calibrationStep := .pendingStart, settleCount := 0 }
          else { s.mot with settleCount := satInc s.mot.settleCount } } := by
  unfold motSettle
  split <;> rfl

theorem motStartCalibration_eq (s : State) :
    motStartCalibration s =
      { s with
        mot :=
          { s.mot with
            positionPulses := 0, calibrationStep := .toOpen, direction := .opening, lastDir := .opening,
            targetPulses := s.cfg.motor.calLarge, ignoreCount := s.cfg.motor.ignoreImpulses,
            pwmDuty := s.cfg.motor.pwmStart, stopReason := .none, wdtArmed := true,
            wdtDeadline := s.sys.now + 8 * s.cfg.motor.wdtCal.toNat, lastPulseTime := s.sys.now } } := by
  rw [motStartCalibration, startDrive, toI16_of_toInt]
  rfl

section
variable {s : State} {r : U8}

theorem motUpdateCal_uncalibrated (hr : r ≠ 0) (h : s.mot.calibrationStep = .uncalibrated) :
    motUpdateCal s r = motSettle s := by
  rw [motUpdateCal, if_neg hr, h]

theorem motUpdateCal_pendingStart (hr : r ≠ 0) (h : s.mot.calibrationStep = .pendingStart) :
    motUpdateCal s r = motStartCalibration s := by
  rw [motUpdateCal, if_neg hr, h]

theorem motUpdateCal_noEffect (hr : r ≠ 0) (hu : s.mot.calibrationStep ≠ .uncalibrated)
    (hp : s.mot.calibrationStep ≠ .pendingStart) : motUpdateCal s r = s := by
  rw [motUpdateCal, if_neg hr]
  split
  next h => exact absurd h hu
  next h => exact absurd h hp
  all_goals rfl

end

/-- Settles O32: reason 0 is `motUnmount`; any other reason follows the calibration step. -/
theorem updateCalResult : Obligations.UpdateCalResult := by
  intro s r ha
  dsimp only
  rw [ha.exec_motUpdateCal]
  split
  next hr =>
    rw [motUpdateCal, if_pos hr]
    rfl
  next hr =>
    split
    next hcal =>
      refine ⟨satInc s.mot.settleCount, satInc_toNat _, congrArg Host.Outcome.next ?_⟩
      rw [motUpdateCal_uncalibrated (s := wake s) hr hcal, motSettle_eq]
      rfl
    next hu =>
      split
      next hcal =>
        rw [motUpdateCal_pendingStart (s := wake s) hr hcal, motStartCalibration_eq]
        rfl
      next hp =>
        rw [motUpdateCal_noEffect (s := wake s) hr hu hp]
        rfl

/-! ### The stop task (rules R313, R314) -/

theorem AcceptsTask.exec_motTimerStop {s : State} (h : AcceptsTask s .motorStop) :
    exec .motTimerStop s = .next (motTimerStop (s.clearTask .motorStop)) :=
  congrArg Host.Outcome.next (dispatchTask_pass s .motorStop (fun u => .done (motTimerStop u)) h.live h.legal h.context
    h.outside h.booted h.pending h.awake)

/-- The move is over: the drive state is idle (rule R313). -/
def moveEnded (s : State) : State := { s with mot := { s.mot with lastDir := .stop, stopReason := .none } }

section
variable {s : State}

theorem motTimerStop_toOpen (h : s.mot.calibrationStep = .toOpen) :
    motTimerStop s = openEndstop (moveEnded s) s.mot.stopReason s.mot.lastDir := by
  rw [motTimerStop, h]
  rfl

theorem motTimerStop_toClose (h : s.mot.calibrationStep = .toClose) :
    motTimerStop s = closeEndstop (moveEnded s) s.mot.stopReason s.mot.lastDir := by
  rw [motTimerStop, h]
  rfl

theorem motTimerStop_calibrated (h : s.mot.calibrationStep = .calibrated) :
    motTimerStop s = finishMove (moveEnded s) s.mot.stopReason s.mot.lastDir := by
  rw [motTimerStop, h]
  rfl

theorem motTimerStop_otherwise (hopen : s.mot.calibrationStep ≠ .toOpen) (hclose : s.mot.calibrationStep ≠ .toClose)
    (hcal : s.mot.calibrationStep ≠ .calibrated) : motTimerStop s = moveEnded s := by
  unfold motTimerStop
  split
  next h => exact absurd h hopen
  next h => exact absurd h hclose
  next h => exact absurd h hcal
  all_goals rfl

variable {why : StopReason} {d : Direction}

theorem openEndstop_adopts (hend : why = .timeout ∧ d = .opening)
    (hhint : 0 < s.nv.persistedMaxPulses.toNat ∧ s.nv.persistedMaxPulses.toNat ≤ 32767) :
    openEndstop s why d =
      { s with
        mot :=
          { s.mot with
            maxPulses := s.nv.persistedMaxPulses
            positionPulses := s.nv.persistedMaxPulses
            targetPulses := s.nv.persistedMaxPulses
            calibrationStep := .calibrated } } := by
  rw [openEndstop, if_pos hend, if_pos hhint, toI16_of_toNat hhint.2]

theorem openEndstop_drives (hend : why = .timeout ∧ d = .opening)
    (hhint : ¬ (0 < s.nv.persistedMaxPulses.toNat ∧ s.nv.persistedMaxPulses.toNat ≤ 32767))
    (hlegal : cfgProblem s.cfg = none) :
    openEndstop s why d =
      { s with
        mot :=
          { s.mot with
            positionPulses := 0, calibrationStep := .toClose, direction := .closing, lastDir := .closing,
            targetPulses := -s.cfg.motor.calLarge, ignoreCount := s.cfg.motor.ignoreImpulses,
            pwmDuty := s.cfg.motor.pwmStart, stopReason := .none, wdtArmed := true,
            wdtDeadline := s.sys.now + 8 * s.cfg.motor.wdtCal.toNat, lastPulseTime := s.sys.now } } := by
  obtain ⟨hlarge, -⟩ := legal_calLarge hlegal
  rw [openEndstop, if_pos hend, if_neg hhint, startDrive, toI16_neg_of_toInt (by omega)]
  rfl

theorem openEndstop_fails (h : ¬ (why = .timeout ∧ d = .opening)) : openEndstop s why d = motFail s := if_neg h

theorem closeEndstop_measures
    (h : why = .timeout ∧ d = .closing ∧ -s.mot.positionPulses.toInt > s.cfg.motor.minImpulses.toNat) :
    closeEndstop s why d =
      { s with
        mot :=
          { s.mot with
            maxPulses := BitVec.ofInt 16 (-s.mot.positionPulses.toInt)
            positionPulses := 0
            targetPulses := 0
            calibrationStep := .calibrated }
        nv := { persistedMaxPulses := BitVec.ofInt 16 (-s.mot.positionPulses.toInt) } } := by
  obtain ⟨hwhy, hd, hdist⟩ := h
  have hlow : -2 ^ 15 ≤ s.mot.positionPulses.toInt := BitVec.le_toInt _
  rw [closeEndstop, if_pos ⟨hwhy, hd⟩, if_pos hdist, toU16_fits (by omega) (by omega)]

theorem closeEndstop_fails
    (h : ¬ (why = .timeout ∧ d = .closing ∧ -s.mot.positionPulses.toInt > s.cfg.motor.minImpulses.toNat)) :
    closeEndstop s why d = motFail s := by
  unfold closeEndstop
  split
  next hend => exact if_neg fun hdist => h ⟨hend.1, hend.2, hdist⟩
  · rfl

theorem finishMove_of_not_timeout (h : why ≠ .timeout) : finishMove s why d = s := by
  cases why with
  | timeout => exact absurd rfl h
  | none | target => rfl

/-- A move that ends in a timeout, by its distance from the target and its direction (rule R314). -/
theorem finishMove_timeout :
    finishMove s .timeout d =
      if (s.mot.positionPulses.toInt - s.mot.targetPulses.toInt).natAbs ≤ s.cfg.motor.tol.toNat then
        if s.mot.targetPulses = 0 ∧ d = .closing then { s with mot := { s.mot with positionPulses := 0 } } else s
      else if d = .closing then motFail s
      else if d = .opening then s.setErr errMotor
      else s := by
  cases d <;> rfl

end

/-- Settles O35: the ends of the two calibration drives, each with its own state. -/
theorem timerStopCalibration : Obligations.TimerStopCalibration := by
  intro s ha
  dsimp only
  rw [ha.exec_motTimerStop]
  refine ⟨fun hcal => congrArg Host.Outcome.next ?_, fun hcal => congrArg Host.Outcome.next ?_⟩
  · rw [motTimerStop_toOpen (s := s.clearTask .motorStop) hcal]
    split
    next hend =>
      split
      next hhint => exact openEndstop_adopts (s := moveEnded (s.clearTask .motorStop)) hend hhint
      next hhint => exact openEndstop_drives (s := moveEnded (s.clearTask .motorStop)) hend hhint ha.legal
    next hend => exact openEndstop_fails hend
  · rw [motTimerStop_toClose (s := s.clearTask .motorStop) hcal]
    split
    next hend => exact closeEndstop_measures (s := moveEnded (s.clearTask .motorStop)) hend
    next hend => exact closeEndstop_fails (s := moveEnded (s.clearTask .motorStop)) hend

/-- Settles O36: outside calibration the stop task ends the move, and only a timeout in a calibrated motor does more. -/
theorem timerStopMove : Obligations.TimerStopMove := by
  intro s ha hopen hclose
  dsimp only
  rw [ha.exec_motTimerStop]
  refine congrArg Host.Outcome.next ?_
  by_cases hcal : s.mot.calibrationStep = .calibrated
  · rw [motTimerStop_calibrated (s := s.clearTask .motorStop) hcal]
    by_cases hwhy : s.mot.stopReason = .timeout
    · rw [if_neg (by simp [hcal, hwhy])]
      change finishMove (moveEnded (s.clearTask .motorStop)) s.mot.stopReason s.mot.lastDir = _
      rw [hwhy, finishMove_timeout]
      rfl
    · rw [if_pos (.inr hwhy)]
      exact finishMove_of_not_timeout hwhy
  · rw [motTimerStop_otherwise (s := s.clearTask .motorStop) hopen hclose hcal, if_pos (.inl hcal)]
    rfl

/-! ### The watchdog (rule R305) -/

/-- Settles O39: the event is enabled, and its handler is `motorWdt`. -/
theorem watchdogResult : Obligations.WatchdogResult := by
  intro s ha harmed hdue
  have henabled : wdtEnabled s = true := by simp [wdtEnabled, ha.enabled, harmed, hdue]
  exact ⟨isrReturn (motorWdt (isrEntry s)), ha.exec_done rfl henabled rfl, rfl, rfl, rfl⟩

/-! ### The eye edge (rule R303) -/

theorem AcceptsEvent.exec_evEyeEdge {s : State} (h : AcceptsEvent s) (l : BitVec 1) :
    exec (.evEyeEdge l) s = .next (isrReturn (eyeEdge (isrEntry s) l)) :=
  h.exec_done rfl rfl rfl

theorem edgeAccepted_iff {s : State} {l : BitVec 1} :
    edgeAccepted s l = true ↔
      l ≠ s.mot.eyeLevel ∧
        ¬ (s.sys.now : Int) - s.mot.eyeLastTime <
          2 * (if l = 1 then s.cfg.motor.eyeLow.toNat else s.cfg.motor.eyeHigh.toNat : Nat) := by
  simp only [edgeAccepted, Bool.and_eq_true, bne_iff_ne, decide_eq_true_eq, apply_ite BitVec.toNat]

/-- The position after one pulse, in the arithmetic of an i16 (rules R42, R303). -/
def pulsedPosition (p : I16) : Direction → I16
  | .opening => p + 1
  | .closing => p - 1
  | .stop => p

theorem wrap16_dsign (p : I16) (d : Direction) : wrap16 (p.toInt + dsign d) = pulsedPosition p d := by
  rw [wrap16, BitVec.ofInt_add, BitVec.ofInt_toInt]
  cases d with
  | opening => rfl
  | closing => exact (BitVec.sub_eq_add_neg p 1).symm
  | stop => exact BitVec.add_zero p

theorem pulseCounted_eq (s : State) :
    pulseCounted s =
      { s with mot := { s.mot with positionPulses := pulsedPosition s.mot.positionPulses s.mot.lastDir } } := by
  rw [pulseCounted, wrap16_dsign]

/-- Settles O37: a rejected edge, and the two drive states without a running drive. -/
theorem eyeEdgeStopped : Obligations.EyeEdgeStopped := by
  intro s level ha m woken thr rejected reload
  have haccepted : edgeAccepted (isrEntry s) level = true ↔ ¬ rejected := edgeAccepted_iff.trans not_or.symm
  rw [ha.exec_evEyeEdge]
  refine ⟨fun hrejected => congrArg Host.Outcome.next ?_, fun hkept hdir =>
    ⟨satInc s.mot.overshootPulses, satInc_toNat _, congrArg Host.Outcome.next ?_⟩⟩
  · have hdropped : edgeAccepted (isrEntry s) level = false :=
      Bool.eq_false_iff.mpr fun h => haccepted.mp h hrejected
    rw [eyeEdge_rejected hdropped]
    rfl
  · by_cases harmed : s.mot.wdtArmed = false
    · rw [eyeEdge_filtered (s := isrEntry s) (haccepted.mpr hkept) hdir harmed, if_pos harmed]
      rfl
    · have hcoasts : s.mot.wdtArmed = true := by simpa using harmed
      rw [eyeEdge_coasting (s := isrEntry s) (haccepted.mpr hkept) hdir hcoasts, pulseCounted_eq, coastPulse,
        wdtReload_eq, if_neg harmed]
      rfl

theorem targetReached_iff {m : MotState} :
    targetReached m = true ↔
      (m.direction = .opening ∧ m.positionPulses.toInt ≥ m.targetPulses.toInt - m.overshootPulses.toNat) ∨
        (m.direction = .closing ∧ m.positionPulses.toInt ≤ m.targetPulses.toInt + m.overshootPulses.toNat) := by
  simp only [targetReached, Bool.or_eq_true, Bool.and_eq_true, beq_iff_eq, decide_eq_true_eq]

/-- Settles O38: the pulse is counted, ignored or regulated, and compared with the target. -/
theorem eyeEdgeDriving : Obligations.EyeEdgeDriving := by
  intro s level ha hdir hpast thr hlevel hphase c reload pos q delta ignored overshoot reached
  have haccepted : edgeAccepted (isrEntry s) level = true := edgeAccepted_iff.mpr ⟨hlevel, hphase⟩
  have hq : ((toU16 q).toNat : Int) = q := toU16_toNat q (by omega) (by omega)
  refine ⟨if ignored then s.mot.pwmDuty else regulatedDuty c s.mot.pwmDuty (toU16 q), ?_, ?_⟩
  · split
    · rfl
    · rw [regulatedDuty_toNat, pwmDelta, hq]
  · rw [ha.exec_evEyeEdge]
    refine congrArg Host.Outcome.next ?_
    rw [eyeEdge_driving (s := isrEntry s) haccepted hdir, drivePulse_eq, pulseCounted_eq, wdtReload_eq]
    dsimp only
    by_cases hreached : reached
    · rw [if_pos (targetReached_iff.mpr hreached), if_pos hreached, if_pos hreached, if_pos hreached]
      rfl
    · rw [if_neg (mt targetReached_iff.mp hreached), if_neg hreached, if_neg hreached, if_neg hreached]
      rfl

end Sys2Proof.Machine

namespace Sys2Proof.Machine

/-! ## The pins of one word (rule R400) -/

theorem pinTrace_append (p : SpiPins) (fs gs : List (SpiPins → SpiPins)) :
    pinTrace p (fs ++ gs) = pinTrace p fs ++ pinTrace (pinsAfter p fs) gs := by
  induction fs generalizing p with
  | nil => rfl
  | cons f fs ih => exact congrArg (f p :: ·) (ih (f p))

/-- The three pin states of one clock with data bit `b`; only the first shows the level `c` that the clock pin had. -/
def clockPins (n c b : Bool) : List SpiPins :=
  [{ nSel := n, sck := c, sdi := b }, { nSel := n, sck := true, sdi := b }, { nSel := n, sck := false, sdi := b }]

theorem pinTrace_spiClock_append (n c d b : Bool) (fs : List (SpiPins → SpiPins)) :
    pinTrace ⟨n, c, d⟩ (spiClock b ++ fs) = clockPins n c b ++ pinTrace ⟨n, false, b⟩ fs :=
  pinTrace_append ⟨n, c, d⟩ (spiClock b) fs

/-- Each clock leaves the clock pin low for the next one. -/
theorem pinTrace_clocks (n d : Bool) (bs : List Bool) :
    pinTrace ⟨n, false, d⟩ (bs.flatMap spiClock) = bs.flatMap (clockPins n false) := by
  induction bs generalizing d with
  | nil => rfl
  | cons b bs ih => rw [List.flatMap_cons, pinTrace_spiClock_append, ih, List.flatMap_cons]

/-- The clocks of a word from any level of the clock pin, which only the first clock shows. -/
theorem pinTrace_word_clocks (w : U16) (n c d : Bool) :
    pinTrace ⟨n, c, d⟩ ((bitsMsbFirst w).flatMap spiClock) =
      (List.range 16).flatMap fun k => clockPins n (if k = 0 then c else false) (w.getLsbD (15 - k)) := by
  have hbits : bitsMsbFirst w = w.getLsbD 15 :: (List.range 15).map fun k => w.getLsbD (15 - (k + 1)) := by
    simp [bitsMsbFirst, List.range_succ_eq_map (n := 15), Function.comp_def]
  rw [hbits, List.flatMap_cons, pinTrace_spiClock_append, pinTrace_clocks, List.range_succ_eq_map (n := 15),
    List.flatMap_cons, List.flatMap_map, List.flatMap_map]
  rfl

theorem pinsAfter_word_clocks (w : U16) (p : SpiPins) :
    pinsAfter p ((bitsMsbFirst w).flatMap spiClock) = { p with sck := false, sdi := w.getLsbD 0 } := rfl

/-- Select, the sixteen clocks, the deselect pulse. -/
theorem pinTrace_spiPinChanges (p : SpiPins) (w : U16) :
    pinTrace p (spiPinChanges w) =
      [{ p with nSel := false }]
        ++ (List.range 16).flatMap (fun k => clockPins false (if k = 0 then p.sck else false) (w.getLsbD (15 - k)))
        ++ [{ nSel := true, sck := false, sdi := w.getLsbD 0 }, { nSel := false, sck := false, sdi := w.getLsbD 0 }] := by
  rw [spiPinChanges, pinTrace_append, ← pinTrace_word_clocks w false p.sck p.sdi]
  rfl

/-! ## The response to one word (rules R137, R400) -/

/-- Clocks that find a delivered level take it, and use no free draw. -/
theorem sampleSdo_levels (n : Nat) (d : SdoDraw) (h : n ≤ d.levels.length) :
    (sampleSdo n d).levels = d.levels.drop n ∧ (sampleSdo n d).draws = d.draws := by
  induction n generalizing d with
  | zero => exact ⟨rfl, rfl⟩
  | succ n ih =>
    obtain ⟨r, levels, draws⟩ := d
    cases levels with
    | nil => cases h
    | cons b rest => exact ih ⟨r.shiftConcat b, rest, draws⟩ (Nat.le_of_succ_le_succ h)

/-- Each sampled level is shifted in at bit 0, so the last of `n` levels ends there and what was sampled before them
moves up. -/
theorem getLsbD_sampleSdo (n : Nat) (d : SdoDraw) (h : n ≤ d.levels.length) {j : Nat} (hj : j < 16) :
    (sampleSdo n d).response.getLsbD j =
      if j < n then d.levels.getD (n - 1 - j) false else d.response.getLsbD (j - n) := by
  induction n generalizing d with
  | zero => rfl
  | succ n ih =>
    obtain ⟨r, levels, draws⟩ := d
    cases levels with
    | nil => cases h
    | cons b rest =>
      have hstep : (sampleSdo (n + 1) ⟨r, b :: rest, draws⟩).response.getLsbD j =
          if j < n then rest.getD (n - 1 - j) false else (r.shiftConcat b).getLsbD (j - n) :=
        ih ⟨r.shiftConcat b, rest, draws⟩ (Nat.le_of_succ_le_succ h)
      rw [hstep]
      dsimp only
      obtain hlt | rfl | hgt := Nat.lt_trichotomy j n
      · rw [if_pos hlt, if_pos (by omega), show n + 1 - 1 - j = n - 1 - j + 1 by omega, List.getD_cons_succ]
      · simp
      · rw [if_neg (by omega), if_neg (by omega), BitVec.getLsbD_shiftConcat]
        simp [show j - n ≠ 0 by omega, show j - n < 16 by omega, show j - n - 1 = j - (n + 1) by omega]

/-- Bit `15 - k` of the response is the level delivered for clock `k`. -/
theorem State.nextResponse_getLsbD {s : State} (h : 16 ≤ s.env.ports.sdo.length) {k : Nat} (hk : k < 16) :
    s.nextResponse.getLsbD (15 - k) = s.env.ports.sdo.getD k false := by
  have hbit := getLsbD_sampleSdo 16 ⟨0, s.env.ports.sdo, s.env.draws⟩ h (show 15 - k < 16 by omega)
  rwa [if_pos (by omega), show 16 - 1 - (15 - k) = k by omega] at hbit

/-- Settles O40: the transfer is one word in the woken state, with its response on `res`. -/
theorem spiTransferResult : Obligations.SpiTransferResult := by
  refine ⟨fun s w ha => ?_, pinTrace_spiPinChanges⟩
  refine ⟨spiSend s w, s.nextResponse, sends_spiSendAll [w] s, rfl,
    congrArg Host.Outcome.next (ha.hostCommand_eq fun u => .done (spiTransfer u w)), fun hlevels => ?_⟩
  obtain ⟨hsdo, hdraws⟩ := sampleSdo_levels 16 ⟨0, s.env.ports.sdo, s.env.draws⟩ hlevels
  exact ⟨fun k => State.nextResponse_getLsbD hlevels, hsdo, hdraws⟩

/-! ## `RFM_INIT` (rules R403, R404) -/

theorem ite_baudTier {α : Type} (b : U32) (x y z : α) :
    (if baudTier b = 0 then x else if baudTier b = 1 then y else z) =
      if b.toNat < 20000 then x else if b.toNat < 100000 then y else z := by
  unfold baudTier
  split
  · rfl
  · split <;> rfl

/-- Sending words neither reads nor writes the sleep of the loop. -/
theorem spiSendAll_wake (ws : List U16) (s : State) :
    spiSendAll (wake s) ws = { spiSendAll s ws with sys := { s.sys with sleeping := false } } := by
  induction ws generalizing s with
  | nil => rfl
  | cons w ws ih => exact ih (spiSend s w)

/-- Settles O42: the words are `initWords`, with the baud rate's tier written out. -/
theorem radioInitResult : Obligations.RadioInitResult := by
  intro s ha c baud bw md
  have hbw : bwTier c (baudTier s.cfg.radio.rfmBaud) = bw := ite_baudTier ..
  have hmd : modTier c (baudTier s.cfg.radio.rfmBaud) = md := ite_baudTier ..
  refine ⟨spiSendAll s (initWords s.cfg), ?_, ?_⟩
  · rw [← hbw, ← hmd]
    exact sends_spiSendAll (initWords s.cfg) s
  · rw [← spiSendAll_wake]
    exact congrArg Host.Outcome.next (ha.hostCommand_eq fun u => .done (rfmInit u))

/-! ## The edge event (rule R456) -/

/-- An enabled edge runs the handler, which begins by disabling the source. -/
theorem AcceptsEvent.exec_evRfmEdge {s t : State} (ha : AcceptsEvent s) (hirq : s.sys.rfmIrqEn = true)
    (hready : s.env.ports.rfmReady = true) (hd : rfmEdge (isrEntry s) = .done t) :
    exec .evRfmEdge s = .next (isrReturn t) :=
  ha.exec_done rfl (by simp [eventCondition, hirq, hready]) hd

theorem rfmEdge_tx {s : State} (h : s.frm.mode = .tx) : rfmEdge s = txEdge (setRfmIrq s false) := by
  unfold rfmEdge
  rw [h]

theorem rfmEdge_rx {s : State} (h : s.frm.mode = .rx) : rfmEdge s = rxEdge (setRfmIrq s false) := by
  unfold rfmEdge
  rw [h]

theorem rfmEdge_rxOwf {s : State} (h : s.frm.mode = .rxOwf) : rfmEdge s = .done (owfEdge (setRfmIrq s false)) := by
  unfold rfmEdge
  rw [h]

/-- A cursor below a bound that is a byte moves on without wrapping. -/
theorem toU8_next {x y : U8} (h : x.toNat < y.toNat) :
    toU8 ((x.toNat : Int) + 1) = x + 1 ∧ (x + 1).toNat = x.toNat + 1 := by
  have hy := y.isLt
  have hnext : (x + 1).toNat = x.toNat + 1 := by bv_omega
  have hcode := toU8_toNat ((x.toNat : Int) + 1) (by omega) (by omega)
  exact ⟨BitVec.eq_of_toNat_eq (by omega), hnext⟩

section
variable {s : State} {b : U8}

/-- In `tx`, after the byte at a cursor below the frame size, the cursor that moved decides between the two ends. -/
theorem txEdge_of_cursor (hbyte : s.bufByte s.frm.framePos.toNat = some b)
    (hcursor : s.frm.framePos.toNat < s.frm.frameSize.toNat) :
    txEdge s =
      (let s1 := setFramePos (spiSend s (txWriteWord b)) (s.frm.framePos + 1)
       .done
        (if s.frm.frameSize.toNat ≤ s.frm.framePos.toNat + 1 then (setMode s1 .txDone false).post .rfm
         else setRfmIrq s1 true)) := by
  obtain ⟨hnext, hmoved⟩ := toU8_next hcursor
  rw [txEdge_of_byte hbyte, nextFramePos, spiSend_frm, hnext]
  simp only [setFramePos_frm_frameSize, setFramePos_frm_framePos, spiSend_frm, hmoved]

theorem txEdge_last (hbyte : s.bufByte s.frm.framePos.toNat = some b)
    (hcursor : s.frm.framePos.toNat < s.frm.frameSize.toNat) (h : s.frm.frameSize.toNat ≤ s.frm.framePos.toNat + 1) :
    txEdge s =
      .done ((setMode (setFramePos (spiSend s (txWriteWord b)) (s.frm.framePos + 1)) .txDone false).post .rfm) :=
  (txEdge_of_cursor hbyte hcursor).trans (congrArg Effect.done (if_pos h))

theorem txEdge_not_last (hbyte : s.bufByte s.frm.framePos.toNat = some b)
    (hcursor : s.frm.framePos.toNat < s.frm.frameSize.toNat) (h : ¬ s.frm.frameSize.toNat ≤ s.frm.framePos.toNat + 1) :
    txEdge s = .done (setRfmIrq (setFramePos (spiSend s (txWriteWord b)) (s.frm.framePos + 1)) true) :=
  (txEdge_of_cursor hbyte hcursor).trans (congrArg Effect.done (if_neg h))

end

/-- Settles O51: the byte goes out, and the handler ends as the last byte or as an earlier one. -/
theorem transmitEdgeResult : Obligations.TransmitEdgeResult := by
  intro s b ha hirq hready hmode hcursor hbyte last
  refine ⟨spiSend s (txWriteWord b), sends_spiSendAll [_] s, ?_⟩
  have htx : rfmEdge (isrEntry s) = txEdge (setRfmIrq (isrEntry s) false) := rfmEdge_tx hmode
  by_cases h : last
  · rw [ha.exec_evRfmEdge hirq hready (htx.trans (txEdge_last hbyte hcursor h)), if_pos h, if_pos h, if_pos h]
    rfl
  · rw [ha.exec_evRfmEdge hirq hready (htx.trans (txEdge_not_last hbyte hcursor h)), if_neg h, if_neg h, if_neg h,
      ← hmode]
    rfl

/-- The received byte is the low byte of the response (rule R402). -/
theorem fifoByte_eq_setWidth (r : U16) : fifoByte r = r.setWidth 8 := (BitVec.setWidth_eq_extractLsb' (by decide)).symm

theorem Memory.read_write (m : Memory) (a x : Nat) (b : U8) :
    (m.write a b).read x = if x = a then some b else m.read x := by
  split
  next h => rw [h, Memory.read_write_same]
  next h => exact Memory.read_write_other m b h

/-- Settles O52: below the capacity a byte is stored, and the cursor that moved decides the mode; after an overflow only
the word is read. -/
theorem receiveEdgeResult : Obligations.ReceiveEdgeResult := by
  intro s ha hirq hready y
  refine ⟨fun hmode hroom => ?_, fun hmode => ?_⟩
  · obtain ⟨hnext, hmoved⟩ := toU8_next hroom
    have hd := (rfmEdge_rx (s := isrEntry s) hmode).trans (rxEdge_of_room hroom)
    refine ⟨spiSend s fifoReadWord, _, s.nextResponse, sends_spiSendAll [_] s, rfl,
      ha.exec_evRfmEdge hirq hready hd, ?_, fun a => ?_⟩
    · simp only [rxAdvanced, byteReceived, setRfmIrq, isrEntry, hnext, hmoved, hmode]
      rfl
    · rw [← fifoByte_eq_setWidth]
      exact Memory.read_write ..
  · have hd := rfmEdge_rxOwf (s := isrEntry s) hmode
    exact ⟨spiSend s fifoReadWord, sends_spiSendAll [_] s, ha.exec_evRfmEdge hirq hready hd⟩

end Sys2Proof.Machine

namespace Sys2Proof.Machine

/-! ## The frame machine's commands

What an accepted command answers is read off its pseudocode in the woken state; each step of rules R450 to R458 has one
equation per branch. -/

/-! ### The answer of an accepted command -/

section
variable {i : Instr} {s : State}

theorem AcceptsCommand.exec_done {t : State} (ha : AcceptsCommand s)
    (hi : exec i s = .next (hostCommand s (pseudocode i))) (hd : pseudocode i (wake s) = .done t) :
    exec i s = .next t := by
  rw [hi, ha.hostCommand_eq, hd, settle_done]

theorem AcceptsCommand.exec_fault {c : FaultCode} {x : U8} (ha : AcceptsCommand s)
    (hi : exec i s = .next (hostCommand s (pseudocode i))) (hf : pseudocode i (wake s) = .fault c x) :
    exec i s = .next (recordFault s c x) := by
  rw [hi, ha.hostCommand_eq, hf, settle_fault]

theorem AcceptsCommand.exec_refuse {r : RefuseReason} (ha : AcceptsCommand s)
    (hi : exec i s = .next (hostCommand s (pseudocode i))) (hr : pseudocode i (wake s) = .refuse r) :
    exec i s = .next (markRefused s r) := by
  rw [hi, ha.hostCommand_eq, hr, settle_refuse]

end

/-! ### The modes and the radio's address -/

theorem ownsBuffer_iff {m : Mode} : ownsBuffer m = true ↔ m = .tx ∨ m = .rx ∨ m = .rxOwf := by
  cases m <;> simp [ownsBuffer]

theorem receiving_iff {m : Mode} : receiving m = true ↔ m = .rx ∨ m = .rxOwf := by
  cases m <;> simp [receiving]

theorem radioOff_iff {s : State} : radioOff s = true ↔ s.cfg.radio.rfmAddr = 0 := beq_iff_eq

theorem radioOff_eq_false_iff {s : State} : radioOff s = false ↔ s.cfg.radio.rfmAddr ≠ 0 := beq_eq_false_iff_ne

/-- A u8 value assigned to a u8 field. -/
theorem toU8_of_toNat (x : U8) : toU8 x.toNat = x := by
  have hx := x.isLt
  have hvalue := toU8_toNat x.toNat (by omega) (by omega)
  exact BitVec.eq_of_toNat_eq (by omega)

/-! ### Writing and reading the buffer (rules R451, R458) -/

section
variable {s : State} {i b : U8}

theorem frmBufWrite_owned (h : ownsBuffer s.frm.mode = true) : frmBufWrite s i b = .fault .bufOwner i := if_pos h

theorem frmBufWrite_free (h : ¬ ownsBuffer s.frm.mode = true) : frmBufWrite s i b = bufWrite s i b := if_neg h

theorem frmBufRead_of_range (h : s.cfg.radio.bufCap.toNat ≤ i.toNat) : frmBufRead s i = .fault .bufRange i := if_pos h

/-- The readable limit is the cursor while receiving, and the capacity otherwise (rule R458). -/
theorem readLimit_le_iff (h : ¬ s.cfg.radio.bufCap.toNat ≤ i.toNat) :
    readLimit s ≤ i.toNat ↔ (s.frm.mode = .rx ∨ s.frm.mode = .rxOwf) ∧ s.frm.framePos.toNat ≤ i.toNat := by
  unfold readLimit
  rw [← receiving_iff]
  split
  next hreceiving => exact (and_iff_right hreceiving).symm
  next hreceiving => exact iff_of_false h fun hc => hreceiving hc.1

theorem frmBufRead_of_limit (hcap : ¬ s.cfg.radio.bufCap.toNat ≤ i.toNat) (h : readLimit s ≤ i.toNat) :
    frmBufRead s i = .fault .bufOwner i :=
  (if_neg hcap).trans (if_pos h)

section
variable (hcap : ¬ s.cfg.radio.bufCap.toNat ≤ i.toNat) (hlimit : ¬ readLimit s ≤ i.toNat)
include hcap hlimit

theorem frmBufRead_of_unwritten (h : s.bufByte i.toNat = none) : frmBufRead s i = .fault .unwritten i := by
  rw [frmBufRead, if_neg hcap, if_neg hlimit, h]

theorem frmBufRead_of_byte (h : s.bufByte i.toNat = some b) : frmBufRead s i = .done (s.withRes (zext16 b)) := by
  rw [frmBufRead, if_neg hcap, if_neg hlimit, h]

end

end

/-- Settles O44: the owner is checked before the capacity, and a write is read back at its own index only. -/
theorem bufferWriteResult : Obligations.BufferWriteResult := by
  intro s i b ha
  split
  next howner => exact ha.exec_fault rfl (frmBufWrite_owned (s := wake s) (ownsBuffer_iff.mpr howner))
  next hfree =>
    have hwrite := frmBufWrite_free (s := wake s) (i := i) (b := b) (mt ownsBuffer_iff.mp hfree)
    split
    next hrange => exact ha.exec_fault rfl (hwrite.trans (if_pos hrange))
    next hroom => exact ⟨_, ha.exec_done rfl (hwrite.trans (if_neg hroom)), rfl, fun a => Memory.read_write ..⟩

/-- Settles O45: the three faults in their order, else the byte. -/
theorem bufferReadResult : Obligations.BufferReadResult := by
  intro s i ha
  split
  next hrange => exact ha.exec_fault rfl (frmBufRead_of_range (s := wake s) hrange)
  next hcap =>
    have hlimit := readLimit_le_iff (s := wake s) hcap
    split
    next hbeyond => exact ha.exec_fault rfl (frmBufRead_of_limit (s := wake s) hcap (hlimit.mpr hbeyond))
    next hbelow =>
      have hreadable := mt hlimit.mp hbelow
      exact ⟨fun hbyte => ha.exec_fault rfl (frmBufRead_of_unwritten (s := wake s) hcap hreadable hbyte),
        fun b hbyte => ha.exec_done rfl (frmBufRead_of_byte (s := wake s) hcap hreadable hbyte)⟩

/-! ### Queueing and starting a frame (rules R452, R453) -/

/-- The index found is the lowest unwritten one (rule R452). -/
theorem Memory.firstUnwritten_eq_some {m : Memory} {k n : Nat} (hk : k < n) (hnone : m.read k = none)
    (hlower : ∀ j, j < k → m.read j ≠ none) : m.firstUnwritten 0 n = some k := by
  cases h : m.firstUnwritten 0 n with
  | none => exact absurd hnone (m.firstUnwritten_none 0 n h k (Nat.zero_le k) (by omega))
  | some j =>
    obtain ⟨-, -, hj, hbelow⟩ := m.firstUnwritten_some 0 n j h
    obtain hlt | rfl | hgt := Nat.lt_trichotomy j k
    · exact absurd hj (hlower j hlt)
    · rfl
    · exact absurd hnone (hbelow k (Nat.zero_le k) hgt)

theorem Memory.firstUnwritten_eq_none {m : Memory} {n : Nat} (h : ∀ k, k < n → m.read k ≠ none) :
    m.firstUnwritten 0 n = none := by
  cases hfound : m.firstUnwritten 0 n with
  | none => rfl
  | some j =>
    obtain ⟨-, hlt, hj, -⟩ := m.firstUnwritten_some 0 n j hfound
    exact absurd hj (h j (by omega))

section
variable {s : State} {n : U8}

theorem frmStartTx_of_mode (h : s.frm.mode ≠ .stop) : frmStartTx s n = .refuse .mode := if_pos h

section
variable (hmode : ¬ s.frm.mode ≠ .stop)
include hmode

theorem frmStartTx_radioOff (h : radioOff s = true) : frmStartTx s n = .done s := (if_neg hmode).trans (if_pos h)

section
variable (hon : ¬ radioOff s = true)
include hon

theorem frmStartTx_badSize (h : n.toNat < 1 ∨ s.cfg.radio.bufCap.toNat < n.toNat) :
    frmStartTx s n = .fault .txSize n := by
  rw [frmStartTx, if_neg hmode, if_neg hon, if_pos h]

variable (hsize : ¬ (n.toNat < 1 ∨ s.cfg.radio.bufCap.toNat < n.toNat))
include hsize

theorem frmStartTx_unwritten {k : Nat} (h : s.frm.frameBuffer.firstUnwritten 0 n.toNat = some k) :
    frmStartTx s n = .fault .unwritten (toU8 k) := by
  rw [frmStartTx, if_neg hmode, if_neg hon, if_neg hsize, h]

theorem frmStartTx_written (h : s.frm.frameBuffer.firstUnwritten 0 n.toNat = none) :
    frmStartTx s n = .done { s with frm := { s.frm with frameSize := n, framePos := 0, mode := .startTx } } := by
  rw [frmStartTx, if_neg hmode, if_neg hon, if_neg hsize, h]

end
end
end

/-- Settles O46: the checks of `frmStartTx` in their order, and the search for the lowest unwritten index. -/
theorem startTransmitResult : Obligations.StartTransmitResult := by
  intro s n ha
  split
  next hmode => exact ha.exec_refuse rfl (frmStartTx_of_mode (s := wake s) hmode)
  next hmode =>
    split
    next hoff => exact ha.exec_done rfl (frmStartTx_radioOff (s := wake s) hmode (radioOff_iff.mpr hoff))
    next haddr =>
      have hon : ¬ radioOff (wake s) = true := mt radioOff_iff.mp haddr
      have hzero : n.toNat < 1 ↔ n = 0 := by bv_omega
      have hbad : n.toNat < 1 ∨ s.cfg.radio.bufCap.toNat < n.toNat ↔ n = 0 ∨ s.cfg.radio.bufCap.toNat < n.toNat :=
        or_congr_left hzero
      split
      next h => exact ha.exec_fault rfl (frmStartTx_badSize (s := wake s) hmode hon (hbad.mpr h))
      next h =>
        have hsize := mt hbad.mp h
        refine ⟨fun k hk hnone hlower => ?_, fun hwritten => ?_⟩
        · have hfault := frmStartTx_unwritten (s := wake s) hmode hon hsize
            (Memory.firstUnwritten_eq_some hk hnone hlower)
          rw [toU8_of_toNat] at hfault
          exact ha.exec_fault rfl hfault
        · exact ha.exec_done rfl
            (frmStartTx_written (s := wake s) hmode hon hsize (Memory.firstUnwritten_eq_none hwritten))

/-- The condition under which a waiting frame starts (rule R453). -/
theorem frmTxSlot_starts {s : State} (hmode : s.frm.mode = .startTx) (haddr : s.cfg.radio.rfmAddr ≠ 0)
    (hsecond : s.env.ports.second.val = s.cfg.radio.rfmAddr.toNat) :
    frmTxSlot s = setMode (spiSend s s.cfg.radio.pmTx) .tx true :=
  if_pos ⟨hmode, radioOff_eq_false_iff.mpr haddr, hsecond⟩

theorem frmTxSlot_waits {s : State}
    (h : ¬ (s.frm.mode = .startTx ∧ s.cfg.radio.rfmAddr ≠ 0 ∧ s.env.ports.second.val = s.cfg.radio.rfmAddr.toNat)) :
    frmTxSlot s = s := by
  rw [← radioOff_eq_false_iff] at h
  exact if_neg h

/-- Settles O47: the slot either starts the frame with one word or does nothing. -/
theorem transmitSlotResult : Obligations.TransmitSlotResult := by
  intro s ha
  split
  next hstarts =>
    obtain ⟨hmode, haddr, hsecond⟩ := hstarts
    refine ⟨spiSend s s.cfg.radio.pmTx, sends_spiSendAll [_] s, ?_⟩
    rw [ha.exec_frmTxSlot, frmTxSlot_starts hmode haddr hsecond]
    rfl
  next hwaits => rw [ha.exec_frmTxSlot, frmTxSlot_waits hwaits]

/-! ### Stop, the end of a transmission, and reception (rules R450, R454, R455, R457) -/

theorem frmStop_radioOff {s : State} (h : radioOff s = true) : frmStop s = setMode s .stop false := by
  rw [frmStop, if_pos h]

theorem frmStop_radioOn {s : State} (h : ¬ radioOff s = true) :
    frmStop s = setMode (spiSend s s.cfg.radio.pmIdle) .stop false := by
  rw [frmStop, if_neg h]

/-- Settles O43: the idle word is sent unless the radio is off. -/
theorem frameStopResult : Obligations.FrameStopResult := by
  intro s ha
  split
  next hoff =>
    exact ⟨s, sends_nil s,
      ha.exec_done rfl (congrArg Effect.done (frmStop_radioOff (s := wake s) (radioOff_iff.mpr hoff)))⟩
  next hon =>
    exact ⟨spiSend s s.cfg.radio.pmIdle, sends_spiSendAll [_] s,
      ha.exec_done rfl (congrArg Effect.done (frmStop_radioOn (s := wake s) (mt radioOff_iff.mp hon)))⟩

/-- Send the words and listen from index 0, as the operations that begin a reception do (rules R454, R455, R457). -/
def listen (s : State) (ws : List U16) : State := setMode (setFramePos (spiSendAll s ws) 0) .rx true

/-- Sending words neither reads nor writes the system part. -/
theorem spiSendAll_withSys (ws : List U16) (s : State) (y : SysState) :
    spiSendAll { s with sys := y } ws = { spiSendAll s ws with sys := y } := by
  induction ws generalizing s with
  | nil => rfl
  | cons w ws ih => exact ih (spiSend s w)

/-- A word may go out first, and the source be disabled until the others are sent (rule R454). -/
theorem listen_cons (s : State) (w : U16) (ws : List U16) :
    listen s (w :: ws) = listen { spiSend s w with sys := { s.sys with rfmIrqEn := false } } ws := by
  obtain ⟨-, -, -, hsys, -⟩ := spiSendAll_keeps ws (spiSend s w)
  rw [listen, listen, spiSendAll_withSys ws (spiSend s w)]
  simp only [spiSendAll_cons, setMode, setFramePos, hsys, spiSend_sys]

/-- The frame machine and the system part of a listening state that was woken. -/
theorem listen_wake (s : State) (ws : List U16) :
    listen (wake s) ws =
      { spiSendAll s ws with
        frm := { s.frm with mode := .rx, framePos := 0 }
        sys := { s.sys with rfmIrqEn := true, sleeping := false } } := by
  obtain ⟨-, -, hfrm, -⟩ := spiSendAll_keeps ws s
  rw [listen, spiSendAll_wake]
  simp only [setMode, setFramePos, hfrm]

section
variable {s : State}

theorem frmTxDone_of_mode (k : U8) (h : s.frm.mode ≠ .txDone) : frmTxDone s k = .refuse .mode := if_pos h

section
variable (hmode : ¬ s.frm.mode ≠ .txDone)
include hmode

theorem frmTxDone_badArg {k : U8} (h : 1 < k.toNat) : frmTxDone s k = .refuse .badArg :=
  (if_neg hmode).trans (if_pos h)

theorem frmTxDone_one :
    frmTxDone s 1 =
      .done (listen s [s.cfg.radio.pmIdle, s.cfg.radio.pmRx, s.cfg.radio.fifoClear, s.cfg.radio.fifoArm]) := by
  rw [listen_cons s s.cfg.radio.pmIdle]
  exact if_neg hmode

theorem frmTxDone_zero : frmTxDone s 0 = .done (setMode (spiSend s s.cfg.radio.pmIdle) .stop false) := if_neg hmode

end

theorem frmStartRx_of_mode (h : s.frm.mode ≠ .stop) : frmStartRx s = .refuse .mode := if_pos h

theorem frmStartRx_radioOff (hmode : ¬ s.frm.mode ≠ .stop) (h : radioOff s = true) : frmStartRx s = .done s :=
  (if_neg hmode).trans (if_pos h)

theorem frmStartRx_radioOn (hmode : ¬ s.frm.mode ≠ .stop) (h : ¬ radioOff s = true) :
    frmStartRx s = .done (listen s [s.cfg.radio.pmRx, s.cfg.radio.fifoClear, s.cfg.radio.fifoArm]) :=
  (if_neg hmode).trans (if_neg h)

theorem frmRxReset_receiving (h : receiving s.frm.mode = true) :
    frmRxReset s = .done (listen s [s.cfg.radio.fifoClear, s.cfg.radio.fifoArm]) :=
  if_pos h

theorem frmRxReset_of_mode (h : ¬ receiving s.frm.mode = true) : frmRxReset s = .refuse .mode := if_neg h

end

theorem eq_zero_or_one_of_toNat_le {k : U8} (h : ¬ 1 < k.toNat) : k = 0 ∨ k = 1 := by bv_omega

/-- Settles O48: the mode, then the operand, then one of the two ends of a transmission. -/
theorem transmitDoneResult : Obligations.TransmitDoneResult := by
  intro s k ha r
  split
  next hmode => exact ha.exec_refuse rfl (frmTxDone_of_mode (s := wake s) k hmode)
  next hmode =>
    split
    next hbad => exact ha.exec_refuse rfl (frmTxDone_badArg (s := wake s) hmode hbad)
    next hk =>
      obtain rfl | rfl := eq_zero_or_one_of_toNat_le hk
      · exact ⟨spiSend s r.pmIdle, sends_spiSendAll [_] s, ha.exec_done rfl (frmTxDone_zero (s := wake s) hmode)⟩
      · exact ⟨spiSendAll s [r.pmIdle, r.pmRx, r.fifoClear, r.fifoArm], sends_spiSendAll _ s,
          (ha.exec_done (i := .frmTxDone 1) rfl (frmTxDone_one (s := wake s) hmode)).trans
            (congrArg _ (listen_wake s _))⟩

/-- Settles O49: the two operations check their modes, and both go on to listen from index 0. -/
theorem receiveResult : Obligations.ReceiveResult := by
  intro s ha r listening
  refine ⟨?_, ?_⟩
  · split
    next hmode => exact ha.exec_refuse rfl (frmStartRx_of_mode (s := wake s) hmode)
    next hmode =>
      split
      next hoff => exact ha.exec_done rfl (frmStartRx_radioOff (s := wake s) hmode (radioOff_iff.mpr hoff))
      next hon =>
        exact ⟨spiSendAll s [r.pmRx, r.fifoClear, r.fifoArm], sends_spiSendAll _ s,
          (ha.exec_done (i := .frmStartRx) rfl
            (frmStartRx_radioOn (s := wake s) hmode (mt radioOff_iff.mp hon))).trans (congrArg _ (listen_wake s _))⟩
  · split
    next hreceiving =>
      exact ⟨spiSendAll s [r.fifoClear, r.fifoArm], sends_spiSendAll _ s,
        (ha.exec_done (i := .frmRxReset) rfl
          (frmRxReset_receiving (s := wake s) (receiving_iff.mpr hreceiving))).trans (congrArg _ (listen_wake s _))⟩
    next hother => exact ha.exec_refuse rfl (frmRxReset_of_mode (s := wake s) (mt receiving_iff.mp hother))

/-! ### The tasks and their flags (rules R459, R505, R516) -/

/-- A task whose flag is not pending, or that comes while the loop sleeps, is refused. -/
theorem AcceptsCommand.exec_notPending {i : Instr} {f : TaskFlag} {s : State} (ha : AcceptsCommand s)
    (hctx : i.context = .task) (hf : taskOf i = some f)
    (h : s.sys.taskFlags &&& taskMask f = 0 ∨ s.sys.sleeping = true) :
    exec i s = .next (markRefused s .notPending) := by
  have hboot : i ≠ .sysBoot := by
    rintro rfl
    cases hf
  have hblocked : (!s.pending f || s.sys.sleeping) = true := by simpa [State.pending] using h
  refine exec_refused ha.live ha.legal (by simp [hctx]) (by simp [notTaken, hctx]) ?_
  simp [gateChecks, hctx, hboot, hf, notTaskContext, ha.context, ha.outside, ha.booted, hblocked]

theorem AcceptsTask.exec_frmTaskAck {s : State} (h : AcceptsTask s .rfm) :
    exec .frmTaskAck s = .next ((s.clearTask .rfm).withRes (frameStatus s.frm)) :=
  congrArg Host.Outcome.next (dispatchTask_pass s .rfm (fun u => .done (u.withRes (frameStatus u.frm))) h.live h.legal
    h.context h.outside h.booted h.pending h.awake)

/-- The mode is the high byte of the result, the cursor the low byte (rule R459). -/
theorem frameStatus_toNat (f : FrmState) : (frameStatus f).toNat = modeCode f.mode * 256 + f.framePos.toNat := by
  have hcode : modeCode f.mode * 256 < 2 ^ 16 := by cases f.mode <;> decide
  rw [frameStatus, BitVec.toNat_or, BitVec.toNat_ofNat, Nat.mod_eq_of_lt hcode, zext16_toNat, Nat.mul_comm]
  exact (Nat.two_pow_add_eq_or_of_lt (i := 8) f.framePos.isLt _).symm

/-- Settles O50: a task without its flag is refused at the gate; the acknowledgement reports the frame machine. -/
theorem taskAckResult : Obligations.TaskAckResult := by
  intro s ha
  refine ⟨ha.exec_notPending (f := .tick) rfl rfl, ha.exec_notPending (f := .motorStop) rfl rfl, ?_⟩
  split
  next hblocked => exact ha.exec_notPending (f := .rfm) rfl rfl hblocked
  next hready =>
    obtain ⟨hflag, hawake⟩ := not_or.mp hready
    have hpending : s.pending .rfm = true := bne_iff_ne.mpr hflag
    have htask : AcceptsTask s .rfm := ⟨ha, hpending, by simpa using hawake⟩
    exact ⟨frameStatus s.frm, frameStatus_toNat s.frm, htask.exec_frmTaskAck⟩

end Sys2Proof.Machine

namespace Sys2Proof.Machine

/-! ## A frame longer than the buffer (rule R463)

Each edge while receiving leads to a state in which the next edge is enabled again, so edges can be counted. -/

theorem repeatOp_succ {i : Instr} {s t : State} (n : Nat) (h : exec i s = .next t) :
    repeatOp i (n + 1) s = repeatOp i n t := by
  rw [repeatOp, h]

/-- The capacity is at least one byte (rule R61). -/
theorem legal_bufCap {c : Cfg} (h : cfgProblem c = none) : 1 ≤ c.radio.bufCap.toNat := by
  have hb := boundsHold_of_legal h
  simp only [boundsHold, Bool.and_eq_true, decide_eq_true_eq] at hb
  omega

section
variable {ws : List U16} {s t : State}

theorem Sends.cfg_eq (h : Sends ws s t) : t.cfg = s.cfg := (congrArg State.cfg h.rest :)

theorem Sends.issuer_eq (h : Sends ws s t) : t.env.issuer = s.env.issuer :=
  (congrArg (fun x : State => x.env.issuer) h.rest :)

theorem Sends.rfmReady_eq (h : Sends ws s t) : t.env.ports.rfmReady = s.env.ports.rfmReady :=
  (congrArg (fun x : State => x.env.ports.rfmReady) h.rest :)

theorem Sends.frm_eq (h : Sends ws s t) : t.frm = s.frm := (congrArg State.frm h.rest :)

end

/-- The edge event is enabled (rules R456, R502). -/
structure EdgeEnabled (s : State) : Prop extends AcceptsEvent s where
  irq : s.sys.rfmIrqEn = true
  ready : s.env.ports.rfmReady = true

section
variable {s : State}

/-- A handler that sends words and enables its source again leaves the event enabled: no mark is set, and the
configuration, the issuer and the chip's line stay. -/
theorem EdgeEnabled.after_edge {ws : List U16} {u : State} (h : EdgeEnabled s) (hu : Sends ws s u) (f : FrmState)
    (flags : U8) :
    EdgeEnabled
      { u with
        frm := f
        sys :=
          { s.sys with rfmIrqEn := true, taskFlags := flags, gie := true, inIsr := false, sleeping := false } } where
  live := h.live
  legal := (congrArg cfgProblem hu.cfg_eq).trans h.legal
  context := hu.issuer_eq.trans h.context
  enabled := rfl
  booted := h.booted
  irq := rfl
  ready := hu.rfmReady_eq.trans h.ready

/-- An edge in `rx` with room left moves the cursor, and overflows when it reaches the capacity (rule R456). -/
theorem EdgeEnabled.edge_rx (h : EdgeEnabled s) (hmode : s.frm.mode = .rx)
    (hroom : s.frm.framePos.toNat < s.cfg.radio.bufCap.toNat) :
    ∃ t, exec .evRfmEdge s = .next t ∧ EdgeEnabled t ∧ t.cfg = s.cfg ∧
      t.frm.framePos.toNat = s.frm.framePos.toNat + 1 ∧
      t.frm.mode = if s.cfg.radio.bufCap.toNat ≤ s.frm.framePos.toNat + 1 then .rxOwf else .rx := by
  obtain ⟨hreceive, -⟩ := receiveEdgeResult s h.toAcceptsEvent h.irq h.ready
  obtain ⟨u, t, -, hu, -, hexec, ht, -⟩ := hreceive hmode hroom
  obtain ⟨-, hmoved⟩ := toU8_next hroom
  generalize t.frm.frameBuffer = buffer at ht
  subst ht
  exact ⟨_, hexec, h.after_edge hu _ _, hu.cfg_eq, hmoved, rfl⟩

/-- An edge in `rx_owf` leaves the frame machine as it is (rule R456). -/
theorem EdgeEnabled.edge_rxOwf (h : EdgeEnabled s) (hmode : s.frm.mode = .rxOwf) :
    ∃ t, exec .evRfmEdge s = .next t ∧ EdgeEnabled t ∧ t.frm = s.frm := by
  obtain ⟨-, hdrop⟩ := receiveEdgeResult s h.toAcceptsEvent h.irq h.ready
  obtain ⟨u, hu, hexec⟩ := hdrop hmode
  exact ⟨_, hexec, h.after_edge hu u.frm _, hu.frm_eq⟩

/-- As many edges as there is room fill the buffer: induction on the room left after the first of them. -/
theorem EdgeEnabled.fills (n : Nat) (h : EdgeEnabled s) (hmode : s.frm.mode = .rx)
    (hroom : s.frm.framePos.toNat + (n + 1) = s.cfg.radio.bufCap.toNat) :
    ∃ t, repeatOp .evRfmEdge (n + 1) s = some t ∧ EdgeEnabled t ∧ t.frm.mode = .rxOwf ∧
      t.frm.framePos = s.cfg.radio.bufCap := by
  induction n generalizing s with
  | zero =>
    obtain ⟨t, hexec, ht, -, hpos, htmode⟩ := h.edge_rx hmode (by omega)
    rw [if_pos (by omega)] at htmode
    exact ⟨t, repeatOp_succ 0 hexec, ht, htmode, BitVec.eq_of_toNat_eq (by omega)⟩
  | succ n ih =>
    obtain ⟨t, hexec, ht, hcfg, hpos, htmode⟩ := h.edge_rx hmode (by omega)
    rw [if_neg (by omega)] at htmode
    rw [repeatOp_succ (n + 1) hexec, ← hcfg]
    exact ih ht htmode (by rw [hcfg]; omega)

/-- After the overflow any number of edges leaves the frame machine as it is: induction on their number. -/
theorem EdgeEnabled.drops (n : Nat) (h : EdgeEnabled s) (hmode : s.frm.mode = .rxOwf) :
    ∃ t, repeatOp .evRfmEdge n s = some t ∧ t.frm = s.frm := by
  induction n generalizing s with
  | zero => exact ⟨s, rfl, rfl⟩
  | succ n ih =>
    obtain ⟨u, hexec, hu, hfrm⟩ := h.edge_rxOwf hmode
    rw [repeatOp_succ n hexec, ← hfrm]
    exact ih hu (hfrm ▸ hmode)

end

/-- Settles O54: the edges up to the capacity fill the buffer, and the later ones drop their bytes. -/
theorem receiveOverflow : Obligations.ReceiveOverflow := by
  intro s ha hirq hready hmode hpos
  obtain ⟨n, hcap⟩ := Nat.exists_eq_add_of_le' (legal_bufCap ha.legal)
  have hstart : EdgeEnabled s := ⟨ha, hirq, hready⟩
  obtain ⟨t, hrun, ht, htmode, htpos⟩ := hstart.fills n hmode (by simp [hpos, hcap])
  exact ⟨t, hcap ▸ hrun, htmode, htpos, fun k => ht.drops k htmode⟩

end Sys2Proof.Machine

namespace Sys2Proof.Machine

/-! ## The mode's transition table (rule R460)

The table reads parameters of the radio and one input, so its rows speak of those and of the frame machine before and
after; entry and return leave all of them alone. -/

/-- A row of the transition table: the operation changes the frame machine from `f` to `g` under the row's condition. -/
inductive ModeRow (r : RadioCfg) (second : Fin 60) (f g : FrmState) : Instr → Prop where
  | stop (h : g.mode = .stop) : ModeRow r second f g .frmStop
  | queue {n : U8} (hf : f.mode = .stop) (hg : g.mode = .startTx) (hon : r.rfmAddr ≠ 0) (hmin : 1 ≤ n.toNat)
      (hmax : n.toNat ≤ r.bufCap.toNat) (hwritten : ∀ k, k < n.toNat → f.frameBuffer.read k ≠ none) :
      ModeRow r second f g (.frmStartTx n)
  | slot {i : Instr} (hi : i = .frmTxSlot ∨ i = .ctlTick) (hf : f.mode = .startTx) (hg : g.mode = .tx)
      (hon : r.rfmAddr ≠ 0) (hsecond : second.val = r.rfmAddr.toNat) : ModeRow r second f g i
  | lastByte (hf : f.mode = .tx) (hg : g.mode = .txDone) (hend : g.frameSize.toNat ≤ g.framePos.toNat) :
      ModeRow r second f g .evRfmEdge
  | doneToRx (hf : f.mode = .txDone) (hg : g.mode = .rx) : ModeRow r second f g (.frmTxDone 1)
  | doneToStop (hf : f.mode = .txDone) (hg : g.mode = .stop) : ModeRow r second f g (.frmTxDone 0)
  | startRx (hf : f.mode = .stop) (hg : g.mode = .rx) (hon : r.rfmAddr ≠ 0) : ModeRow r second f g .frmStartRx
  | overflow (hf : f.mode = .rx) (hg : g.mode = .rxOwf) (hfull : r.bufCap.toNat ≤ g.framePos.toNat) :
      ModeRow r second f g .evRfmEdge
  | rxReset (hf : f.mode = .rx ∨ f.mode = .rxOwf) (hg : g.mode = .rx) : ModeRow r second f g .frmRxReset

/-- The operation `i`, which leads from `s` to `t`, keeps the mode or follows a row of the table. -/
def FollowsTable (i : Instr) (s t : State) : Prop :=
  t.frm.mode = s.frm.mode ∨ ModeRow s.cfg.radio s.env.ports.second s.frm t.frm i

theorem FollowsTable.of_frm {i : Instr} {s t : State} (h : t.frm = s.frm) : FollowsTable i s t :=
  .inl (congrArg FrmState.mode h)

/-! ### The operations of the frame machine -/

theorem listen_frm_mode (s : State) (ws : List U16) : (listen s ws).frm.mode = .rx := rfl

/-- A completed `FRM_START_TX` passed its checks in order (rule R452). -/
theorem frmStartTx_followsTable {s t : State} {n : U8} (h : frmStartTx s n = .done t) :
    FollowsTable (.frmStartTx n) s t := by
  obtain ⟨hmode, rfl | ⟨hmin, hwritten, rfl⟩⟩ := frmStartTx_done h
  · exact .inl rfl
  have hstop := not_not_intro hmode
  by_cases hoff : radioOff s = true
  · rw [frmStartTx_radioOff hstop hoff] at h
    exact .inl (congrArg (fun u : State => u.frm.mode) (Effect.done.inj h).symm)
  by_cases hsize : n.toNat < 1 ∨ s.cfg.radio.bufCap.toNat < n.toNat
  · rw [frmStartTx_badSize hstop hoff hsize] at h
    cases h
  · exact .inr (.queue hmode rfl (mt radioOff_iff.mpr hoff) hmin (by omega)
      fun k hk => Memory.firstUnwritten_none _ _ _ hwritten k (Nat.zero_le k) (by omega))

/-- The slot follows its row, whichever operation issues it (rule R453). -/
theorem frmTxSlot_followsTable {i : Instr} (s : State) (hi : i = .frmTxSlot ∨ i = .ctlTick) :
    FollowsTable i s (frmTxSlot s) := by
  by_cases h : s.frm.mode = .startTx ∧ s.cfg.radio.rfmAddr ≠ 0 ∧ s.env.ports.second.val = s.cfg.radio.rfmAddr.toNat
  · obtain ⟨hmode, hon, hsecond⟩ := h
    rw [frmTxSlot_starts hmode hon hsecond]
    exact .inr (.slot hi hmode rfl hon hsecond)
  · rw [frmTxSlot_waits h]
    exact .of_frm rfl

theorem frmTxDone_followsTable {s t : State} {k : U8} (h : frmTxDone s k = .done t) :
    FollowsTable (.frmTxDone k) s t := by
  by_cases hmode : s.frm.mode ≠ .txDone
  · rw [frmTxDone_of_mode k hmode] at h
    cases h
  by_cases hk : 1 < k.toNat
  · rw [frmTxDone_badArg hmode hk] at h
    cases h
  have hdone : s.frm.mode = .txDone := Decidable.not_not.mp hmode
  obtain rfl | rfl := eq_zero_or_one_of_toNat_le hk
  · rw [frmTxDone_zero hmode] at h
    cases h
    exact .inr (.doneToStop hdone rfl)
  · rw [frmTxDone_one hmode] at h
    cases h
    exact .inr (.doneToRx hdone (listen_frm_mode s _))

theorem frmStartRx_followsTable {s t : State} (h : frmStartRx s = .done t) : FollowsTable .frmStartRx s t := by
  by_cases hmode : s.frm.mode ≠ .stop
  · rw [frmStartRx_of_mode hmode] at h
    cases h
  by_cases hoff : radioOff s = true
  · rw [frmStartRx_radioOff hmode hoff] at h
    cases h
    exact .of_frm rfl
  · rw [frmStartRx_radioOn hmode hoff] at h
    cases h
    exact .inr (.startRx (Decidable.not_not.mp hmode) (listen_frm_mode s _) (mt radioOff_iff.mpr hoff))

theorem frmRxReset_followsTable {s t : State} (h : frmRxReset s = .done t) : FollowsTable .frmRxReset s t := by
  by_cases hreceiving : receiving s.frm.mode = true
  · rw [frmRxReset_receiving hreceiving] at h
    cases h
    exact .inr (.rxReset (receiving_iff.mp hreceiving) (listen_frm_mode s _))
  · rw [frmRxReset_of_mode hreceiving] at h
    cases h

theorem txEdge_followsTable {s t : State} (hmode : s.frm.mode = .tx) (h : txEdge s = .done t) :
    FollowsTable .evRfmEdge s t := by
  obtain ⟨b, -, ht⟩ := txEdge_done h
  have hkept : (nextFramePos (spiSend s (txWriteWord b))).frm.mode = s.frm.mode := nextFramePos_frm_mode _
  generalize nextFramePos (spiSend s (txWriteWord b)) = u at ht hkept
  obtain ⟨hend, rfl⟩ | ⟨-, rfl⟩ := ht
  · exact .inr (.lastByte hmode rfl hend)
  · exact .inl hkept

theorem rxEdge_followsTable {s t : State} (hmode : s.frm.mode = .rx) (h : rxEdge s = .done t) :
    FollowsTable .evRfmEdge s t := by
  by_cases hroom : s.frm.framePos.toNat < s.cfg.radio.bufCap.toNat
  · rw [rxEdge_of_room hroom, rxAdvanced] at h
    generalize byteReceived s = u at h
    cases h
    by_cases hfull : s.cfg.radio.bufCap.toNat ≤ u.frm.framePos.toNat
    · exact .inr (.overflow hmode (if_pos hfull) hfull)
    · exact .inl (if_neg hfull)
  · rw [rxEdge_of_full (Nat.le_of_not_lt hroom)] at h
    cases h

/-- The edge handler: the two modes in which a byte can be the last one (rule R456). -/
theorem rfmEdge_followsTable {s t : State} (h : rfmEdge s = .done t) : FollowsTable .evRfmEdge s t := by
  unfold rfmEdge at h
  split at h
  next hmode => exact txEdge_followsTable (s := setRfmIrq s false) hmode h
  next hmode => exact rxEdge_followsTable (s := setRfmIrq s false) hmode h
  all_goals
    cases h
    exact .of_frm rfl

/-! ### Every operation -/

/-- What the slot reads of a state (rule R453). -/
structure SlotInputsKept (s t : State) : Prop where
  frm : t.frm = s.frm
  cfg : t.cfg = s.cfg
  env : t.env = s.env

theorem SlotInputsKept.trans {s t u : State} (h : SlotInputsKept s t) (k : SlotInputsKept t u) : SlotInputsKept s u :=
  ⟨k.frm.trans h.frm, k.cfg.trans h.cfg, k.env.trans h.env⟩

theorem ControllerFrame.slotInputs {s t : State} (h : ControllerFrame s t) : SlotInputsKept s t :=
  ⟨(congrArg State.frm h.rest :), h.cfg_eq, h.env_eq⟩

theorem DriveFrame.slotInputs {s t : State} (h : DriveFrame s t) : SlotInputsKept s t :=
  ⟨h.motor.frm, h.motor.cfg, h.env_eq⟩

theorem motUpdateCal_env (s : State) (r : U8) : (motUpdateCal s r).env = s.env := by
  unfold motUpdateCal
  split
  · rfl
  · split
    · unfold motSettle
      split <;> rfl
    all_goals rfl

theorem motUpdateCal_slotInputs (s : State) (r : U8) : SlotInputsKept s (motUpdateCal s r) :=
  ⟨(motUpdateCal_frame s r).frm, (motUpdateCal_frame s r).cfg, motUpdateCal_env s r⟩

theorem tickMount_slotInputs (s : State) : SlotInputsKept s (tickMount s) := by
  unfold tickMount
  split
  · exact (ControllerFrame.slotInputs (t := s.clearErr errMount) ⟨rfl⟩).trans (motUpdateCal_slotInputs ..)
  · exact (ControllerFrame.slotInputs (t := s.setErr errMount) ⟨rfl⟩).trans (motUpdateCal_slotInputs ..)

/-- The tick ends with the slot, and its other steps leave what the slot reads (rule R200). -/
theorem ctlTick_eq_frmTxSlot (s : State) : ∃ u, ctlTick s = frmTxSlot u ∧ SlotInputsKept s u := by
  have hsync := (tickSync_frame s).slotInputs
  have hsched := hsync.trans (ControllerFrame.slotInputs (t := ctlSchedFollow _) ⟨rfl⟩)
  have hwindow := hsched.trans (tickWindow_frame _).slotInputs
  have hbattery := hwindow.trans (ControllerFrame.slotInputs (t := ctlBattery _) ⟨rfl⟩)
  have hupdate := hbattery.trans (ControllerFrame.slotInputs (t := ctlUpdate _) ⟨rfl⟩)
  exact ⟨_, rfl, (hupdate.trans (motGoto_drive ..).slotInputs).trans (tickMount_slotInputs _)⟩

theorem ctlTick_followsTable (s : State) : FollowsTable .ctlTick s (ctlTick s) := by
  obtain ⟨u, heq, hu⟩ := ctlTick_eq_frmTxSlot s
  have hslot := frmTxSlot_followsTable u (.inr rfl)
  rwa [FollowsTable, hu.frm, hu.cfg, hu.env, ← heq] at hslot

theorem spiTransfer_frm (s : State) (w : U16) : (spiTransfer s w).frm = s.frm := spiSend_frm s w

theorem pseudocode_radio_followsTable {i : Instr} {s t : State} (hi : partOf i = .radio)
    (hd : pseudocode i s = .done t) : FollowsTable i s t := by
  cases i with
  | sysReset | sysBoot | sysCli | sysSei | sysSleep | evTmrTick | evRtcSecond => cases hi
  | ctlTick | ctlUpdate | ctlWindowSample | ctlWindowHw | ctlBattery | ctlSchedFollow => cases hi
  | ctlChangeMode | ctlTempChangeInc | ctlSetWanted | ctlErrAck => cases hi
  | motGoto | motUpdateCal | motGetPosPercent | motTimerPulse | motTimerStop | evEyeEdge | evMotorWdt => cases hi
  | frmTaskAck =>
    cases hd
    exact .of_frm rfl
  | rfmInit =>
    cases hd
    obtain ⟨-, -, hfrm, -⟩ := spiSendAll_keeps (initWords s.cfg) s
    exact .of_frm hfrm
  | frmStop =>
    cases hd
    exact .inr (.stop rfl)
  | frmBufWrite i b =>
    obtain ⟨-, rfl⟩ := frmBufWrite_done hd
    exact .inl rfl
  | frmStartTx n => exact frmStartTx_followsTable hd
  | frmTxSlot =>
    cases hd
    exact frmTxSlot_followsTable s (.inl rfl)
  | frmTxDone k => exact frmTxDone_followsTable hd
  | frmStartRx => exact frmStartRx_followsTable hd
  | frmRxReset => exact frmRxReset_followsTable hd
  | frmBufRead i =>
    obtain ⟨v, rfl⟩ := frmBufRead_done hd
    exact .of_frm rfl
  | evRfmEdge => exact rfmEdge_followsTable hd
  | _ =>
    cases hd
    exact .of_frm (spiTransfer_frm ..)

theorem pseudocode_followsTable {i : Instr} {s t : State} (hr : i ≠ .sysReset) (hd : pseudocode i s = .done t) :
    FollowsTable i s t := by
  cases hi : partOf i with
  | system => exact .of_frm (pseudocode_system hi hr hd).frm
  | controller => exact .of_frm (pseudocode_controller hi hd).slotInputs.frm
  | motor => exact .of_frm (pseudocode_motor hi hd).frm
  | radio => exact pseudocode_radio_followsTable hi hd
  | tick =>
    cases i with
    | ctlTick =>
      cases hd
      exact ctlTick_followsTable s
    | _ => cases hi

theorem entered_env (i : Instr) (s : State) : (entered i s).env = s.env := by
  unfold entered
  split
  · rfl
  · rfl
  · rfl
  · split <;> rfl

theorem exec_followsTable {i : Instr} {s t : State} (h : exec i s = .next t) : i = .sysReset ∨ FollowsTable i s t := by
  obtain ⟨rfl, -⟩ | hm | ⟨hr, -, u, hd, rfl⟩ := exec_cases h
  · exact .inl rfl
  · cases hm
    all_goals exact .inr (.of_frm rfl)
  · have hrow := pseudocode_followsTable hr hd
    rw [FollowsTable, (entered_frame i s).frm, (entered_frame i s).cfg, entered_env, ← (leave_frame i u).frm] at hrow
    exact .inr hrow

/-- Settles O53: an operation that is not reset and does not keep the mode follows one of the rows. -/
theorem modeTransitions : Obligations.ModeTransitions := by
  intro i s t h hchange a b
  obtain hreset | hkept | hrow := exec_followsTable h
  · exact .inl hreset
  · exact absurd hkept hchange
  refine .inr ?_
  cases hrow with
  | stop hg => exact .inl ⟨rfl, hg⟩
  | queue hf hg hon hmin hmax hwritten => exact .inr (.inl ⟨_, rfl, hf, hg, hon, hmin, hmax, hwritten⟩)
  | slot hi hf hg hon hsecond => exact .inr (.inr (.inl ⟨hi, hf, hg, hon, hsecond⟩))
  | lastByte hf hg hend => exact .inr (.inr (.inr (.inl ⟨rfl, hf, hg, hend⟩)))
  | doneToRx hf hg => exact .inr (.inr (.inr (.inr (.inl ⟨rfl, hf, hg⟩))))
  | doneToStop hf hg => exact .inr (.inr (.inr (.inr (.inr (.inl ⟨rfl, hf, hg⟩)))))
  | startRx hf hg hon => exact .inr (.inr (.inr (.inr (.inr (.inr (.inl ⟨rfl, hf, hg, hon⟩))))))
  | overflow hf hg hfull => exact .inr (.inr (.inr (.inr (.inr (.inr (.inr (.inl ⟨rfl, hf, hg, hfull⟩)))))))
  | rxReset hf hg => exact .inr (.inr (.inr (.inr (.inr (.inr (.inr (.inr ⟨rfl, hf, hg⟩)))))))

end Sys2Proof.Machine

namespace Sys2Proof.Machine

/-! ## The marks (rules R503, R504)

The fault and the refusal are written by the gate alone: a pseudocode that completes keeps both, so a state with a new
mark differs in that mark only. -/

/-- The fault mark and the refusal mark are as they were. -/
structure MarksKept (s t : State) : Prop where
  fault : t.sys.fault = s.sys.fault
  refused : t.sys.refused = s.sys.refused

theorem MarksKept.refl (s : State) : MarksKept s s := ⟨rfl, rfl⟩

theorem MarksKept.trans {s t u : State} (h : MarksKept s t) (k : MarksKept t u) : MarksKept s u :=
  ⟨k.fault.trans h.fault, k.refused.trans h.refused⟩

theorem MarksKept.of_sys {s t : State} (h : t.sys = s.sys) : MarksKept s t :=
  ⟨congrArg SysState.fault h, congrArg SysState.refused h⟩

theorem entered_marks (i : Instr) (s : State) : MarksKept s (entered i s) := by
  unfold entered
  split
  · exact ⟨rfl, rfl⟩
  · exact .refl s
  · exact .refl s
  · split <;> exact ⟨rfl, rfl⟩

theorem leave_marks (i : Instr) (s : State) : MarksKept s (leave i s) := by
  unfold leave
  split <;> exact ⟨rfl, rfl⟩

/-! ### Every completed pseudocode -/

theorem ControllerFrame.marks {s t : State} (h : ControllerFrame s t) : MarksKept s t :=
  .of_sys (congrArg State.sys h.rest :)

theorem MotorFrame.marks {s t : State} (h : MotorFrame s t) : MarksKept s t := by
  obtain hs | hs | hs := h.sys
  · exact .of_sys hs
  · exact .trans ⟨State.post_sys_fault s _, State.post_sys_refused s _⟩ (.of_sys hs)
  · exact .trans ⟨State.clearTask_sys_fault s _, State.clearTask_sys_refused s _⟩ (.of_sys hs)

theorem RadioFrame.marks {s t : State} (h : RadioFrame s t) : MarksKept s t := by
  obtain ⟨b, hs | hs⟩ := h.sys
  · exact .trans (t := setRfmIrq s b) ⟨rfl, rfl⟩ (.of_sys hs)
  · exact .trans (t := setRfmIrq (s.post .rfm) b) ⟨rfl, rfl⟩ (.of_sys hs)

theorem ctlTick_marks (s : State) : MarksKept s (ctlTick s) :=
  ctlTick_keeps (P := MarksKept s)
    (fun _ _ _ hu => hu.trans (ControllerFrame.marks ⟨rfl⟩)) (fun _ hu => hu.trans (ControllerFrame.marks ⟨rfl⟩))
    (fun _ hu => hu.trans (ControllerFrame.marks ⟨rfl⟩)) (fun _ hu => hu.trans (ControllerFrame.marks ⟨rfl⟩))
    (fun _ hu => hu.trans (ControllerFrame.marks ⟨rfl⟩)) (fun _ hu => hu.trans (ControllerFrame.marks ⟨rfl⟩))
    (fun _ _ hu => hu.trans (motGoto_drive ..).motor.marks) (fun _ _ hu => hu.trans (motUpdateCal_frame ..).marks)
    (fun _ hu => hu.trans (frmTxSlot_frame _).marks) (.refl s)

theorem pseudocode_system_marks {i : Instr} {s t : State} (hi : partOf i = .system) (hr : i ≠ .sysReset)
    (hd : pseudocode i s = .done t) : MarksKept s t := by
  cases i with
  | sysReset => exact absurd rfl hr
  | sysBoot =>
    obtain ⟨-, ⟨u, hu, -, -, rfl⟩ | rfl⟩ := sysBoot_done hd
    · exact hu.marks.trans ⟨rfl, rfl⟩
    · exact ⟨rfl, rfl⟩
  | sysSleep =>
    obtain ⟨-, rfl⟩ := sysSleep_done hd
    exact ⟨rfl, rfl⟩
  | sysCli | sysSei | evTmrTick | evRtcSecond =>
    cases hd
    exact ⟨rfl, rfl⟩
  | _ => cases hi

/-- No operation's own pseudocode writes a mark; `SYS_RESET` clears them (rule R600). -/
theorem pseudocode_marks {i : Instr} {s t : State} (hr : i ≠ .sysReset) (hd : pseudocode i s = .done t) :
    MarksKept s t := by
  cases hi : partOf i with
  | system => exact pseudocode_system_marks hi hr hd
  | controller => exact (pseudocode_controller hi hd).marks
  | motor => exact (pseudocode_motor hi hd).marks
  | radio => exact (pseudocode_radio hi hd).marks
  | tick =>
    cases i with
    | ctlTick =>
      cases hd
      exact ctlTick_marks s
    | _ => cases hi

/-! ### Where a new mark comes from -/

theorem live_iff {s : State} :
    s.live = true ↔ s.sys.halted = false ∧ s.sys.fault = none ∧ s.sys.refused = false := by
  simp [State.live, and_assoc]

/-- An operation keeps the marks, or it marks the old state, or it is reset. -/
theorem exec_marks {i : Instr} {s t : State} (h : exec i s = .next t) :
    (i = .sysReset ∧ t = resetState s) ∨ MarksKept s t ∨ (∃ r, t = markRefused s r) ∨ ∃ c x, t = recordFault s c x := by
  obtain hreset | hm | ⟨hr, -, u, hd, rfl⟩ := exec_cases h
  · exact .inl hreset
  · cases hm with
    | same => exact .inr (.inl (.refl s))
    | refused r => exact .inr (.inr (.inl ⟨r, rfl⟩))
    | fault c x => exact .inr (.inr (.inr ⟨c, x, rfl⟩))
  · exact .inr (.inl (((entered_marks i s).trans (pseudocode_marks hr hd)).trans (leave_marks i u)))

/-- Settles O7: a live state has no mark, so an operation that keeps the marks records none, and the gate's own marks
change nothing else. -/
theorem marksDiscardEffects : Obligations.MarksDiscardEffects := by
  intro i s t hl h
  obtain ⟨-, hfault, hrefused⟩ := live_iff.mp hl
  obtain ⟨-, rfl⟩ | hkept | ⟨r, rfl⟩ | ⟨c, x, rfl⟩ := exec_marks h
  · exact ⟨fun hf => absurd rfl hf, fun hr => nomatch hr⟩
  · exact ⟨fun hf => absurd (hkept.fault.trans hfault) hf,
      fun hr => absurd ((hkept.refused.trans hrefused).symm.trans hr) (by decide)⟩
  · exact ⟨fun hf => absurd hfault hf, fun _ => rfl⟩
  · exact ⟨fun _ => rfl, fun hr => absurd (hrefused.symm.trans hr) (by decide)⟩

/-- Settles O6: an event is not taken in a state that is not live, and the gate leaves such a state as it is. -/
theorem deadStateFrozen : Obligations.DeadStateFrozen := by
  intro i s hdead hr
  have hlive : s.live = false := by
    refine Bool.eq_false_iff.mpr fun hl => ?_
    obtain ⟨hhalted, hfault, hrefused⟩ := live_iff.mp hl
    simp [hhalted, hfault, hrefused] at hdead
  rw [exec_eq_gate i s hr, passGate_not_live _ _ _ hlive, ite_self]

/-! ## Events that are not taken (rules R502, R526) -/

/-- A delivered event without `gie`, or whose own condition fails, changes nothing in any state, live or not. -/
theorem exec_event_not_enabled {i : Instr} {s : State} (hctx : i.context = .interrupt) (hi : s.env.issuer = .source)
    (h : s.sys.gie = false ∨ eventCondition i s = false) : exec i s = .next s := by
  have hskip : notTaken i s = true := by
    obtain hgie | hcond := h
    · simp [notTaken, hctx, hi, hgie]
    · simp [notTaken, hctx, hi, hcond]
  rw [exec_eq_gate i s (ne_sysReset_of_interrupt hctx), if_pos hskip]

theorem wdtEnabled_iff {s : State} :
    wdtEnabled s = true ↔ s.sys.gie = true ∧ s.mot.wdtArmed = true ∧ s.mot.wdtDeadline ≤ s.sys.now := by
  simp [wdtEnabled, and_assoc]

theorem wdtEnabled_eq_false {s : State} (h : s.mot.wdtArmed = false ∨ s.sys.now < s.mot.wdtDeadline) :
    wdtEnabled s = false := by
  refine Bool.eq_false_iff.mpr fun he => ?_
  obtain ⟨-, harmed, hdue⟩ := wdtEnabled_iff.mp he
  obtain hunarmed | hearly := h
  · exact absurd (hunarmed.symm.trans harmed) (by decide)
  · exact absurd hdue (Nat.not_le.mpr hearly)

/-- Settles O10: each clause makes `gie` or the event's own condition false. -/
theorem disabledEventsIgnored : Obligations.DisabledEventsIgnored := by
  intro s hi
  refine ⟨fun i hctx hgie => exec_event_not_enabled hctx hi (.inl hgie), fun hwdt => ?_, fun hedge => ?_,
    fun hdue => ?_⟩
  · exact exec_event_not_enabled rfl hi (.inr (wdtEnabled_eq_false hwdt))
  · exact exec_event_not_enabled rfl hi (.inr (Bool.and_eq_false_iff.mpr hedge))
  · exact exec_event_not_enabled rfl hi (.inr (congrArg Bool.not (wdtEnabled_iff.mpr hdue)))

/-! ## The critical section, sleep and time (rules R511 to R516) -/

theorem sysSleep_idle {s : State} (h : s.sys.taskFlags = 0) :
    sysSleep s = .done { s with sys := { s.sys with sleeping := true } } := if_neg (not_not_intro h)

theorem sysSleep_pending {s : State} (h : s.sys.taskFlags ≠ 0) : sysSleep s = .refuse .context := if_pos h

/-- Settles O14: the three commands run in the woken state, and only `SYS_SLEEP` has a check of its own. -/
theorem enableAndSleepResult : Obligations.EnableAndSleepResult := by
  intro s ha
  refine ⟨ha.exec_done rfl rfl, ha.exec_done rfl rfl, ?_⟩
  split
  next hidle => exact ha.exec_done rfl (sysSleep_idle (s := wake s) hidle)
  next hpending => exact ha.exec_refuse rfl (sysSleep_pending (s := wake s) hpending)

/-- Settles O15: entry, handler and return of the two time interrupts; the tick is taken while the watchdog event is not
enabled. -/
theorem timeEvents : Obligations.TimeEvents := by
  intro s ha
  refine ⟨fun hwdt => ?_, ?_⟩
  · have htaken : eventCondition .evTmrTick s = true := congrArg Bool.not (wdtEnabled_eq_false hwdt)
    exact ha.exec_done (t := tmrTick (isrEntry s)) rfl htaken rfl
  · exact ha.exec_done (t := (isrEntry s).post .tick) rfl rfl rfl

end Sys2Proof.Machine

namespace Sys2Proof.Machine

/-! ## Reset (rules R600, R603) -/

theorem exec_sysReset (s : State) : exec .sysReset s = .next (resetState s) := rfl

/-- Every byte of the frame buffer is unwritten after reset. -/
theorem resetState_bufByte (s : State) (a : Nat) : (resetState s).bufByte a = none := by
  rw [State.bufByte, resetState_frm]
  exact Memory.read_nil a

/-- Settles O12: each part of the reset state is its table of rule R603. -/
theorem resetResult : Obligations.ResetResult := by
  intro s
  have hctl := resetState_ctl s
  have hmot := resetState_mot s
  have hfrm := resetState_frm s
  exact ⟨resetState s, exec_sysReset s, ⟨_, rfl, hctl⟩, hmot, congrArg FrmState.mode hfrm,
    congrArg FrmState.frameSize hfrm, congrArg FrmState.framePos hfrm, resetState_bufByte s, resetState_spi s,
    resetState_sys s, resetState_hist s, resetState_nv s, resetState_cfg s⟩

/-! ## Boot (rules R601, R602) -/

/-- The words that boot sends: none with the radio's address 0, else the init words (rule R601). -/
def bootWords (c : Cfg) : List U16 := if c.radio.rfmAddr = 0 then [] else initWords c

section
variable {s : State}

theorem sysBoot_booted (h : s.sys.booted = true) : sysBoot s = .refuse .context := if_pos h

/-- A layout mismatch halts before any bus word. -/
theorem sysBoot_layoutMismatch (hb : ¬ s.sys.booted = true) (hlayout : s.env.ports.layoutOk = false) :
    sysBoot s = .done { s with sys := { s.sys with halted := true } } := by
  rw [sysBoot, if_neg hb, if_neg (Bool.eq_false_iff.mp hlayout)]

/-- With the layout matched, boot sends its words and then sets both flags. -/
theorem sysBoot_layoutOk (hb : ¬ s.sys.booted = true) (hlayout : s.env.ports.layoutOk = true) :
    sysBoot s =
      .done
        { spiSendAll s (bootWords s.cfg) with
          sys := { (spiSendAll s (bootWords s.cfg)).sys with gie := true, booted := true } } := by
  have hinit : (if s.cfg.radio.rfmAddr = 0 then s else rfmInit s) = spiSendAll s (bootWords s.cfg) := by
    unfold bootWords
    split <;> rfl
  rw [sysBoot, if_neg hb, if_pos hlayout, ← hinit]

/-- In task context boot passes its gate, booted or not: it is the one operation but reset without the boot check
(rule R525). -/
theorem exec_sysBoot_eq (hl : s.live = true) (hc : cfgProblem s.cfg = none) (hissuer : s.env.issuer ≠ .source)
    (hisr : s.sys.inIsr = false) : exec .sysBoot s = .next (settle s (sysBoot (wake s))) := by
  have hchecks : firstFailure [(notTaskContext s, RefuseReason.context)] = none := by
    simp [notTaskContext, hissuer, hisr]
  exact congrArg Host.Outcome.next (passGate_pass s _ _ hl hc hchecks)

end

/-- Settles O13: behind the gate, boot refuses, halts, or sends its words in the woken state. -/
theorem bootResult : Obligations.BootResult := by
  intro s hl hc hissuer hisr
  rw [exec_sysBoot_eq hl hc hissuer hisr]
  split
  next hb => rw [sysBoot_booted (s := wake s) hb, settle_refuse]
  next hb =>
    split
    next hlayout =>
      rw [sysBoot_layoutMismatch (s := wake s) hb hlayout, settle_done]
      rfl
    next hlayout =>
      refine ⟨spiSendAll s (bootWords s.cfg), sends_spiSendAll (bootWords s.cfg) s, ?_⟩
      rw [sysBoot_layoutOk (s := wake s) hb (eq_true_of_ne_false hlayout), settle_done, spiSendAll_wake]
      rfl

end Sys2Proof.Machine
